-- ==== Sys2Proof/Word.lean ====
section
/-! DEFINITION. The machine's words: bytes and 16-bit addresses (00_scope.md R7, R9). -/

namespace Sys2Proof

/-- An 8-bit byte; bits are numbered from 0, the least significant (R9). -/
abbrev Byte := BitVec 8

/-- A 16-bit quantity: an STA address, the pointer pair, the stack pointer (R7). -/
abbrev Word16 := BitVec 16

/-- `{hi, lo}`, which for bytes is `(hi << 8) | lo` (R9). -/
def concat16 (hi lo : Byte) : Word16 := hi ++ lo

/-- The high nibble `op[7:4]` (R9). -/
def highNibble (op : Byte) : BitVec 4 := op.extractLsb' 4 4

/-- The low nibble `op[3:0]` (R9). -/
def lowNibble (op : Byte) : BitVec 4 := op.extractLsb' 0 4

end Sys2Proof
end

