-- ==== Sys2Proof/Config.lean ====
section
/-! DEFINITION. What an implementation fixes: the constants of 00_scope.md R7, the parameters of R8 and
44_ingestion_harness.md R201 as one plain record, and the values the spec leaves open. -/

namespace Sys2Proof

/-- The five physical registers, named by their role index 0 to 4 (10_state.md R20, R22). -/
inductive Reg where
  | r0 | r1 | r2 | r3 | r4
deriving DecidableEq, Repr

/-- The six roles: 0 to 4 are registers, role 5 is M, the byte at the pointer pair (R22, R23). -/
inductive Role where
  | reg (r : Reg)
  | m
deriving DecidableEq, Repr

/-- The spec's labels for the five physical registers (R23, D3). -/
inductive RegName where
  | B | C | H | L | A
deriving DecidableEq, Repr

/-- `ROLE_TABLE`: the role of each named register. Role 5 = M is fixed by the source and so is no
field (R8, R23). -/
structure RoleTable where
  b : Reg
  c : Reg
  h : Reg
  l : Reg
  a : Reg
deriving DecidableEq, Repr

/-- UNVERIFIED (log 4): the spec's default `ROLE_TABLE`, 0 = B, 1 = C, 2 = H, 3 = L, 4 = A (R8, R23, D3). -/
def RoleTable.default : RoleTable := { b := .r0, c := .r1, h := .r2, l := .r3, a := .r4 }

/-- `PC_OVERFLOW` (R8, R31). -/
inductive PcOverflow where
  | wrap16
  | linear
deriving DecidableEq, Repr

/-- `INGEST_MODE` (R8, R201). -/
inductive IngestMode where
  | bounded
  | unbounded
deriving DecidableEq, Repr

/-- The implementation parameters of R8 and R201, fixed for the life of the process. `CYCLE_BUDGET` is an
argument of the run (log 10) and `EXIT_GUARD` is `Config.exitGuardCode` (log 11). -/
structure Params where
  /-- `MEM_SIZE`, in bytes (R7, R21). -/
  memSize : Nat
  pcOverflow : PcOverflow
  roleTable : RoleTable
  ingestMode : IngestMode
  guardEnabled : Bool
  /-- `GUARD_BYTES`, in staging order (R204, R205). -/
  guardBytes : List Byte
deriving DecidableEq, Repr

/-- The spec's defaults (R7, R8, R201). UNVERIFIED: PC_OVERFLOW (log 5) and GUARD_BYTES (log 9) are the
spec's decisions D4 and D16, not the source's. -/
def Params.default : Params :=
  { memSize := 65536
    pcOverflow := .wrap16
    roleTable := RoleTable.default
    ingestMode := .bounded
    guardEnabled := false
    guardBytes := [0xEF#8, 0xBE#8, 0xAD#8, 0xDE#8] }

namespace Config

/-- UNVERIFIED (log 6): the bit of N in `flags` (R8, R33, D5). -/
def flagNBit : Nat := 7

/-- UNVERIFIED (log 6): the bit of Z in `flags` (R8, R33, D5). -/
def flagZBit : Nat := 6

/-- `STAGE_CAP`, the capacity of the bounded copy's staging region (R7, R202). -/
def stageCap : Nat := 1024

/-- `SAFE_CAP`, the safe sub-region of the unbounded copy (R7, R204). -/
def safeCap : Nat := 64

/-- `RECV_REQUEST`, the most bytes the unbounded receive asks for (R7, R203). -/
def recvRequest : Nat := 1024

/-- The total size of the unsafe staging region `U` (R204, D15). -/
def unsafeRegionSize : Nat := 1024

/-- A free value (log 12): what byte `i` of a new staging region holds before the harness writes it. The
spec leaves it unspecified (R205). -/
opaque stagingByte : Nat → Byte

/-- A free value (log 11): the status of `EXIT_GUARD`, an OPEN parameter (R8, R217, D18). -/
opaque exitGuardCode : Nat

end Config

end Sys2Proof
end

