-- ==== Sys2Proof/Syntax.lean ====
section
/-! DEFINITION. The instructions: one constructor for each row of spec/opcode_table.json, that is one for each
opcode byte (30_encoding.md R76). `movDS` is the table's `MOV_D__S`, destination first (R84), named by the
default ROLE_TABLE; under another table the opcode keeps its roles (R76). Log 13 says why each of the 215
unimplemented opcodes has a constructor of its own. -/

namespace Sys2Proof

/-- An instruction. Operands are bytes as they stand in the instruction stream (R72, R73). -/
inductive Instr where
  /-- `00`, no operation (R120). -/
  | nop
  /-- `43 imm8`, load immediate into the accumulator (R121). -/
  | ldi (imm8 : Byte)
  /-- `04 lo hi`, store the accumulator at `(hi << 8) | lo` (R122). -/
  | sta (lo hi : Byte)
  /-- `FF`, halt on syscall (R123). -/
  | hlt
  /-- `95`, increment the accumulator (R190). -/
  | inc
  -- moves from source role 0: `A0` to `A5` (R140)
  | movBB | movCB | movHB | movLB | movAB | movMB
  -- moves from source role 1: `B0` to `B5` (R140)
  | movBC | movCC | movHC | movLC | movAC | movMC
  -- moves from source role 2: `C0` to `C5` (R140)
  | movBH | movCH | movHH | movLH | movAH | movMH
  -- moves from source role 3: `D0` to `D5` (R140)
  | movBL | movCL | movHL | movLL | movAL | movML
  -- moves from source role 4: `E0` to `E5` (R140)
  | movBA | movCA | movHA | movLA | movAA | movMA
  -- moves from source role 5: `F0` to `F5` (R140)
  | movBM | movCM | movHM | movLM | movAM | movMM
  -- the unimplemented opcodes `NN`, as `unimpNN` (R124)
  | unimp01 | unimp02 | unimp03 | unimp05 | unimp06 | unimp07 | unimp08 | unimp09
  | unimp0A | unimp0B | unimp0C | unimp0D | unimp0E | unimp0F
  | unimp10 | unimp11 | unimp12 | unimp13 | unimp14 | unimp15 | unimp16 | unimp17
  | unimp18 | unimp19 | unimp1A | unimp1B | unimp1C | unimp1D | unimp1E | unimp1F
  | unimp20 | unimp21 | unimp22 | unimp23 | unimp24 | unimp25 | unimp26 | unimp27
  | unimp28 | unimp29 | unimp2A | unimp2B | unimp2C | unimp2D | unimp2E | unimp2F
  | unimp30 | unimp31 | unimp32 | unimp33 | unimp34 | unimp35 | unimp36 | unimp37
  | unimp38 | unimp39 | unimp3A | unimp3B | unimp3C | unimp3D | unimp3E | unimp3F
  | unimp40 | unimp41 | unimp42 | unimp44 | unimp45 | unimp46 | unimp47 | unimp48
  | unimp49 | unimp4A | unimp4B | unimp4C | unimp4D | unimp4E | unimp4F
  | unimp50 | unimp51 | unimp52 | unimp53 | unimp54 | unimp55 | unimp56 | unimp57
  | unimp58 | unimp59 | unimp5A | unimp5B | unimp5C | unimp5D | unimp5E | unimp5F
  | unimp60 | unimp61 | unimp62 | unimp63 | unimp64 | unimp65 | unimp66 | unimp67
  | unimp68 | unimp69 | unimp6A | unimp6B | unimp6C | unimp6D | unimp6E | unimp6F
  | unimp70 | unimp71 | unimp72 | unimp73 | unimp74 | unimp75 | unimp76 | unimp77
  | unimp78 | unimp79 | unimp7A | unimp7B | unimp7C | unimp7D | unimp7E | unimp7F
  | unimp80 | unimp81 | unimp82 | unimp83 | unimp84 | unimp85 | unimp86 | unimp87
  | unimp88 | unimp89 | unimp8A | unimp8B | unimp8C | unimp8D | unimp8E | unimp8F
  | unimp90 | unimp91 | unimp92 | unimp93 | unimp94 | unimp96 | unimp97 | unimp98
  | unimp99 | unimp9A | unimp9B | unimp9C | unimp9D | unimp9E | unimp9F
  | unimpA6 | unimpA7 | unimpA8 | unimpA9 | unimpAA | unimpAB | unimpAC | unimpAD
  | unimpAE | unimpAF
  | unimpB6 | unimpB7 | unimpB8 | unimpB9 | unimpBA | unimpBB | unimpBC | unimpBD
  | unimpBE | unimpBF
  | unimpC6 | unimpC7 | unimpC8 | unimpC9 | unimpCA | unimpCB | unimpCC | unimpCD
  | unimpCE | unimpCF
  | unimpD6 | unimpD7 | unimpD8 | unimpD9 | unimpDA | unimpDB | unimpDC | unimpDD
  | unimpDE | unimpDF
  | unimpE6 | unimpE7 | unimpE8 | unimpE9 | unimpEA | unimpEB | unimpEC | unimpED
  | unimpEE | unimpEF
  | unimpF6 | unimpF7 | unimpF8 | unimpF9 | unimpFA | unimpFB | unimpFC | unimpFD
  | unimpFE
deriving DecidableEq, Repr

end Sys2Proof
end

