-- ==== Sys2Proof/Decode.lean ====
section
/-! DEFINITION. Decoding and encoding, each written from 30_encoding.md: the opcode map of R76, the formats of
R71 to R74 and the lengths of R70. Every opcode byte decodes (R79); a byte list is rejected, by name, only
where it ends before the instruction does. -/

namespace Sys2Proof

/-- One cell of the opcode map: the instruction's format, with the instruction where the opcode byte alone
determines it. -/
inductive OpcodeRow where
  /-- Format `F1`: one byte (R71). -/
  | f1 (i : Instr)
  /-- Format `FMOV`: one byte of two selectors (R74). -/
  | fmov (i : Instr)
  /-- Format `FI8`: opcode, `imm8`; used by LDI only (R72). -/
  | fi8
  /-- Format `FA16`: opcode, `lo`, `hi`; used by STA only (R73). -/
  | fa16
deriving DecidableEq, Repr

/-- Row 0 of the opcode map (R76). -/
def opcodeMapRow0 : Vector OpcodeRow 16 := #v[
  .f1 .nop, .f1 .unimp01, .f1 .unimp02, .f1 .unimp03, .fa16, .f1 .unimp05, .f1 .unimp06, .f1 .unimp07,
  .f1 .unimp08, .f1 .unimp09, .f1 .unimp0A, .f1 .unimp0B, .f1 .unimp0C, .f1 .unimp0D, .f1 .unimp0E, .f1 .unimp0F]

/-- Row 1 of the opcode map (R76). -/
def opcodeMapRow1 : Vector OpcodeRow 16 := #v[
  .f1 .unimp10, .f1 .unimp11, .f1 .unimp12, .f1 .unimp13, .f1 .unimp14, .f1 .unimp15, .f1 .unimp16, .f1 .unimp17,
  .f1 .unimp18, .f1 .unimp19, .f1 .unimp1A, .f1 .unimp1B, .f1 .unimp1C, .f1 .unimp1D, .f1 .unimp1E, .f1 .unimp1F]

/-- Row 2 of the opcode map (R76). -/
def opcodeMapRow2 : Vector OpcodeRow 16 := #v[
  .f1 .unimp20, .f1 .unimp21, .f1 .unimp22, .f1 .unimp23, .f1 .unimp24, .f1 .unimp25, .f1 .unimp26, .f1 .unimp27,
  .f1 .unimp28, .f1 .unimp29, .f1 .unimp2A, .f1 .unimp2B, .f1 .unimp2C, .f1 .unimp2D, .f1 .unimp2E, .f1 .unimp2F]

/-- Row 3 of the opcode map (R76). -/
def opcodeMapRow3 : Vector OpcodeRow 16 := #v[
  .f1 .unimp30, .f1 .unimp31, .f1 .unimp32, .f1 .unimp33, .f1 .unimp34, .f1 .unimp35, .f1 .unimp36, .f1 .unimp37,
  .f1 .unimp38, .f1 .unimp39, .f1 .unimp3A, .f1 .unimp3B, .f1 .unimp3C, .f1 .unimp3D, .f1 .unimp3E, .f1 .unimp3F]

/-- Row 4 of the opcode map (R76). -/
def opcodeMapRow4 : Vector OpcodeRow 16 := #v[
  .f1 .unimp40, .f1 .unimp41, .f1 .unimp42, .fi8, .f1 .unimp44, .f1 .unimp45, .f1 .unimp46, .f1 .unimp47,
  .f1 .unimp48, .f1 .unimp49, .f1 .unimp4A, .f1 .unimp4B, .f1 .unimp4C, .f1 .unimp4D, .f1 .unimp4E, .f1 .unimp4F]

/-- Row 5 of the opcode map (R76). -/
def opcodeMapRow5 : Vector OpcodeRow 16 := #v[
  .f1 .unimp50, .f1 .unimp51, .f1 .unimp52, .f1 .unimp53, .f1 .unimp54, .f1 .unimp55, .f1 .unimp56, .f1 .unimp57,
  .f1 .unimp58, .f1 .unimp59, .f1 .unimp5A, .f1 .unimp5B, .f1 .unimp5C, .f1 .unimp5D, .f1 .unimp5E, .f1 .unimp5F]

/-- Row 6 of the opcode map (R76). -/
def opcodeMapRow6 : Vector OpcodeRow 16 := #v[
  .f1 .unimp60, .f1 .unimp61, .f1 .unimp62, .f1 .unimp63, .f1 .unimp64, .f1 .unimp65, .f1 .unimp66, .f1 .unimp67,
  .f1 .unimp68, .f1 .unimp69, .f1 .unimp6A, .f1 .unimp6B, .f1 .unimp6C, .f1 .unimp6D, .f1 .unimp6E, .f1 .unimp6F]

/-- Row 7 of the opcode map (R76). -/
def opcodeMapRow7 : Vector OpcodeRow 16 := #v[
  .f1 .unimp70, .f1 .unimp71, .f1 .unimp72, .f1 .unimp73, .f1 .unimp74, .f1 .unimp75, .f1 .unimp76, .f1 .unimp77,
  .f1 .unimp78, .f1 .unimp79, .f1 .unimp7A, .f1 .unimp7B, .f1 .unimp7C, .f1 .unimp7D, .f1 .unimp7E, .f1 .unimp7F]

/-- Row 8 of the opcode map (R76). -/
def opcodeMapRow8 : Vector OpcodeRow 16 := #v[
  .f1 .unimp80, .f1 .unimp81, .f1 .unimp82, .f1 .unimp83, .f1 .unimp84, .f1 .unimp85, .f1 .unimp86, .f1 .unimp87,
  .f1 .unimp88, .f1 .unimp89, .f1 .unimp8A, .f1 .unimp8B, .f1 .unimp8C, .f1 .unimp8D, .f1 .unimp8E, .f1 .unimp8F]

/-- Row 9 of the opcode map (R76). -/
def opcodeMapRow9 : Vector OpcodeRow 16 := #v[
  .f1 .unimp90, .f1 .unimp91, .f1 .unimp92, .f1 .unimp93, .f1 .unimp94, .f1 .inc, .f1 .unimp96, .f1 .unimp97,
  .f1 .unimp98, .f1 .unimp99, .f1 .unimp9A, .f1 .unimp9B, .f1 .unimp9C, .f1 .unimp9D, .f1 .unimp9E, .f1 .unimp9F]

/-- Row A of the opcode map (R76). -/
def opcodeMapRowA : Vector OpcodeRow 16 := #v[
  .fmov .movBB, .fmov .movCB, .fmov .movHB, .fmov .movLB, .fmov .movAB, .fmov .movMB, .f1 .unimpA6, .f1 .unimpA7,
  .f1 .unimpA8, .f1 .unimpA9, .f1 .unimpAA, .f1 .unimpAB, .f1 .unimpAC, .f1 .unimpAD, .f1 .unimpAE, .f1 .unimpAF]

/-- Row B of the opcode map (R76). -/
def opcodeMapRowB : Vector OpcodeRow 16 := #v[
  .fmov .movBC, .fmov .movCC, .fmov .movHC, .fmov .movLC, .fmov .movAC, .fmov .movMC, .f1 .unimpB6, .f1 .unimpB7,
  .f1 .unimpB8, .f1 .unimpB9, .f1 .unimpBA, .f1 .unimpBB, .f1 .unimpBC, .f1 .unimpBD, .f1 .unimpBE, .f1 .unimpBF]

/-- Row C of the opcode map (R76). -/
def opcodeMapRowC : Vector OpcodeRow 16 := #v[
  .fmov .movBH, .fmov .movCH, .fmov .movHH, .fmov .movLH, .fmov .movAH, .fmov .movMH, .f1 .unimpC6, .f1 .unimpC7,
  .f1 .unimpC8, .f1 .unimpC9, .f1 .unimpCA, .f1 .unimpCB, .f1 .unimpCC, .f1 .unimpCD, .f1 .unimpCE, .f1 .unimpCF]

/-- Row D of the opcode map (R76). -/
def opcodeMapRowD : Vector OpcodeRow 16 := #v[
  .fmov .movBL, .fmov .movCL, .fmov .movHL, .fmov .movLL, .fmov .movAL, .fmov .movML, .f1 .unimpD6, .f1 .unimpD7,
  .f1 .unimpD8, .f1 .unimpD9, .f1 .unimpDA, .f1 .unimpDB, .f1 .unimpDC, .f1 .unimpDD, .f1 .unimpDE, .f1 .unimpDF]

/-- Row E of the opcode map (R76). -/
def opcodeMapRowE : Vector OpcodeRow 16 := #v[
  .fmov .movBA, .fmov .movCA, .fmov .movHA, .fmov .movLA, .fmov .movAA, .fmov .movMA, .f1 .unimpE6, .f1 .unimpE7,
  .f1 .unimpE8, .f1 .unimpE9, .f1 .unimpEA, .f1 .unimpEB, .f1 .unimpEC, .f1 .unimpED, .f1 .unimpEE, .f1 .unimpEF]

/-- Row F of the opcode map (R76). -/
def opcodeMapRowF : Vector OpcodeRow 16 := #v[
  .fmov .movBM, .fmov .movCM, .fmov .movHM, .fmov .movLM, .fmov .movAM, .fmov .movMM, .f1 .unimpF6, .f1 .unimpF7,
  .f1 .unimpF8, .f1 .unimpF9, .f1 .unimpFA, .f1 .unimpFB, .f1 .unimpFC, .f1 .unimpFD, .f1 .unimpFE, .f1 .hlt]

/-- The opcode map: rows are the high nibble, columns the low nibble (R76). -/
def opcodeMap : Vector (Vector OpcodeRow 16) 16 := #v[
  opcodeMapRow0, opcodeMapRow1, opcodeMapRow2, opcodeMapRow3, opcodeMapRow4, opcodeMapRow5, opcodeMapRow6, opcodeMapRow7,
  opcodeMapRow8, opcodeMapRow9, opcodeMapRowA, opcodeMapRowB, opcodeMapRowC, opcodeMapRowD, opcodeMapRowE, opcodeMapRowF]

/-- The cell of an opcode byte. Total: all 256 bytes have one (R79, R102). -/
def opcodeRow (op : Byte) : OpcodeRow :=
  (opcodeMap[(highNibble op).toNat]'(highNibble op).isLt)[(lowNibble op).toNat]'(lowNibble op).isLt

/-- The length in bytes, fixed by the opcode byte alone (R70). -/
def OpcodeRow.length : OpcodeRow → Nat
  | .f1 _ => 1
  | .fmov _ => 1
  | .fi8 => 2
  | .fa16 => 3

/-- Why a list of bytes holds no whole instruction. No opcode and no operand byte is ever illegal (R79, R80). -/
inductive DecodeError where
  /-- There is no opcode byte. -/
  | missingOpcode
  /-- LDI's `imm8` is missing (R72). -/
  | missingImm8
  /-- STA's `lo` or `hi` is missing (R73). -/
  | missingAddr16
deriving DecidableEq, Repr

/-- The first instruction of a list of bytes and the bytes after it (R70 to R74). -/
def decode : List Byte → Except DecodeError (Instr × List Byte)
  | [] => .error .missingOpcode
  | op :: rest =>
    match opcodeRow op with
    | .f1 i => .ok (i, rest)
    | .fmov i => .ok (i, rest)
    | .fi8 =>
      match rest with
      | v :: rest => .ok (.ldi v, rest)
      | [] => .error .missingImm8
    | .fa16 =>
      match rest with
      | lo :: hi :: rest => .ok (.sta lo hi, rest)
      | _ => .error .missingAddr16

/-- The bytes of an instruction, in the order of their addresses (R71 to R74, R83, R84). -/
def encode : Instr → List Byte
  | .nop => [0x00#8]
  | .unimp01 => [0x01#8]
  | .unimp02 => [0x02#8]
  | .unimp03 => [0x03#8]
  | .sta lo hi => [0x04#8, lo, hi]
  | .unimp05 => [0x05#8]
  | .unimp06 => [0x06#8]
  | .unimp07 => [0x07#8]
  | .unimp08 => [0x08#8]
  | .unimp09 => [0x09#8]
  | .unimp0A => [0x0A#8]
  | .unimp0B => [0x0B#8]
  | .unimp0C => [0x0C#8]
  | .unimp0D => [0x0D#8]
  | .unimp0E => [0x0E#8]
  | .unimp0F => [0x0F#8]
  | .unimp10 => [0x10#8]
  | .unimp11 => [0x11#8]
  | .unimp12 => [0x12#8]
  | .unimp13 => [0x13#8]
  | .unimp14 => [0x14#8]
  | .unimp15 => [0x15#8]
  | .unimp16 => [0x16#8]
  | .unimp17 => [0x17#8]
  | .unimp18 => [0x18#8]
  | .unimp19 => [0x19#8]
  | .unimp1A => [0x1A#8]
  | .unimp1B => [0x1B#8]
  | .unimp1C => [0x1C#8]
  | .unimp1D => [0x1D#8]
  | .unimp1E => [0x1E#8]
  | .unimp1F => [0x1F#8]
  | .unimp20 => [0x20#8]
  | .unimp21 => [0x21#8]
  | .unimp22 => [0x22#8]
  | .unimp23 => [0x23#8]
  | .unimp24 => [0x24#8]
  | .unimp25 => [0x25#8]
  | .unimp26 => [0x26#8]
  | .unimp27 => [0x27#8]
  | .unimp28 => [0x28#8]
  | .unimp29 => [0x29#8]
  | .unimp2A => [0x2A#8]
  | .unimp2B => [0x2B#8]
  | .unimp2C => [0x2C#8]
  | .unimp2D => [0x2D#8]
  | .unimp2E => [0x2E#8]
  | .unimp2F => [0x2F#8]
  | .unimp30 => [0x30#8]
  | .unimp31 => [0x31#8]
  | .unimp32 => [0x32#8]
  | .unimp33 => [0x33#8]
  | .unimp34 => [0x34#8]
  | .unimp35 => [0x35#8]
  | .unimp36 => [0x36#8]
  | .unimp37 => [0x37#8]
  | .unimp38 => [0x38#8]
  | .unimp39 => [0x39#8]
  | .unimp3A => [0x3A#8]
  | .unimp3B => [0x3B#8]
  | .unimp3C => [0x3C#8]
  | .unimp3D => [0x3D#8]
  | .unimp3E => [0x3E#8]
  | .unimp3F => [0x3F#8]
  | .unimp40 => [0x40#8]
  | .unimp41 => [0x41#8]
  | .unimp42 => [0x42#8]
  | .ldi imm8 => [0x43#8, imm8]
  | .unimp44 => [0x44#8]
  | .unimp45 => [0x45#8]
  | .unimp46 => [0x46#8]
  | .unimp47 => [0x47#8]
  | .unimp48 => [0x48#8]
  | .unimp49 => [0x49#8]
  | .unimp4A => [0x4A#8]
  | .unimp4B => [0x4B#8]
  | .unimp4C => [0x4C#8]
  | .unimp4D => [0x4D#8]
  | .unimp4E => [0x4E#8]
  | .unimp4F => [0x4F#8]
  | .unimp50 => [0x50#8]
  | .unimp51 => [0x51#8]
  | .unimp52 => [0x52#8]
  | .unimp53 => [0x53#8]
  | .unimp54 => [0x54#8]
  | .unimp55 => [0x55#8]
  | .unimp56 => [0x56#8]
  | .unimp57 => [0x57#8]
  | .unimp58 => [0x58#8]
  | .unimp59 => [0x59#8]
  | .unimp5A => [0x5A#8]
  | .unimp5B => [0x5B#8]
  | .unimp5C => [0x5C#8]
  | .unimp5D => [0x5D#8]
  | .unimp5E => [0x5E#8]
  | .unimp5F => [0x5F#8]
  | .unimp60 => [0x60#8]
  | .unimp61 => [0x61#8]
  | .unimp62 => [0x62#8]
  | .unimp63 => [0x63#8]
  | .unimp64 => [0x64#8]
  | .unimp65 => [0x65#8]
  | .unimp66 => [0x66#8]
  | .unimp67 => [0x67#8]
  | .unimp68 => [0x68#8]
  | .unimp69 => [0x69#8]
  | .unimp6A => [0x6A#8]
  | .unimp6B => [0x6B#8]
  | .unimp6C => [0x6C#8]
  | .unimp6D => [0x6D#8]
  | .unimp6E => [0x6E#8]
  | .unimp6F => [0x6F#8]
  | .unimp70 => [0x70#8]
  | .unimp71 => [0x71#8]
  | .unimp72 => [0x72#8]
  | .unimp73 => [0x73#8]
  | .unimp74 => [0x74#8]
  | .unimp75 => [0x75#8]
  | .unimp76 => [0x76#8]
  | .unimp77 => [0x77#8]
  | .unimp78 => [0x78#8]
  | .unimp79 => [0x79#8]
  | .unimp7A => [0x7A#8]
  | .unimp7B => [0x7B#8]
  | .unimp7C => [0x7C#8]
  | .unimp7D => [0x7D#8]
  | .unimp7E => [0x7E#8]
  | .unimp7F => [0x7F#8]
  | .unimp80 => [0x80#8]
  | .unimp81 => [0x81#8]
  | .unimp82 => [0x82#8]
  | .unimp83 => [0x83#8]
  | .unimp84 => [0x84#8]
  | .unimp85 => [0x85#8]
  | .unimp86 => [0x86#8]
  | .unimp87 => [0x87#8]
  | .unimp88 => [0x88#8]
  | .unimp89 => [0x89#8]
  | .unimp8A => [0x8A#8]
  | .unimp8B => [0x8B#8]
  | .unimp8C => [0x8C#8]
  | .unimp8D => [0x8D#8]
  | .unimp8E => [0x8E#8]
  | .unimp8F => [0x8F#8]
  | .unimp90 => [0x90#8]
  | .unimp91 => [0x91#8]
  | .unimp92 => [0x92#8]
  | .unimp93 => [0x93#8]
  | .unimp94 => [0x94#8]
  | .inc => [0x95#8]
  | .unimp96 => [0x96#8]
  | .unimp97 => [0x97#8]
  | .unimp98 => [0x98#8]
  | .unimp99 => [0x99#8]
  | .unimp9A => [0x9A#8]
  | .unimp9B => [0x9B#8]
  | .unimp9C => [0x9C#8]
  | .unimp9D => [0x9D#8]
  | .unimp9E => [0x9E#8]
  | .unimp9F => [0x9F#8]
  | .movBB => [0xA0#8]
  | .movCB => [0xA1#8]
  | .movHB => [0xA2#8]
  | .movLB => [0xA3#8]
  | .movAB => [0xA4#8]
  | .movMB => [0xA5#8]
  | .unimpA6 => [0xA6#8]
  | .unimpA7 => [0xA7#8]
  | .unimpA8 => [0xA8#8]
  | .unimpA9 => [0xA9#8]
  | .unimpAA => [0xAA#8]
  | .unimpAB => [0xAB#8]
  | .unimpAC => [0xAC#8]
  | .unimpAD => [0xAD#8]
  | .unimpAE => [0xAE#8]
  | .unimpAF => [0xAF#8]
  | .movBC => [0xB0#8]
  | .movCC => [0xB1#8]
  | .movHC => [0xB2#8]
  | .movLC => [0xB3#8]
  | .movAC => [0xB4#8]
  | .movMC => [0xB5#8]
  | .unimpB6 => [0xB6#8]
  | .unimpB7 => [0xB7#8]
  | .unimpB8 => [0xB8#8]
  | .unimpB9 => [0xB9#8]
  | .unimpBA => [0xBA#8]
  | .unimpBB => [0xBB#8]
  | .unimpBC => [0xBC#8]
  | .unimpBD => [0xBD#8]
  | .unimpBE => [0xBE#8]
  | .unimpBF => [0xBF#8]
  | .movBH => [0xC0#8]
  | .movCH => [0xC1#8]
  | .movHH => [0xC2#8]
  | .movLH => [0xC3#8]
  | .movAH => [0xC4#8]
  | .movMH => [0xC5#8]
  | .unimpC6 => [0xC6#8]
  | .unimpC7 => [0xC7#8]
  | .unimpC8 => [0xC8#8]
  | .unimpC9 => [0xC9#8]
  | .unimpCA => [0xCA#8]
  | .unimpCB => [0xCB#8]
  | .unimpCC => [0xCC#8]
  | .unimpCD => [0xCD#8]
  | .unimpCE => [0xCE#8]
  | .unimpCF => [0xCF#8]
  | .movBL => [0xD0#8]
  | .movCL => [0xD1#8]
  | .movHL => [0xD2#8]
  | .movLL => [0xD3#8]
  | .movAL => [0xD4#8]
  | .movML => [0xD5#8]
  | .unimpD6 => [0xD6#8]
  | .unimpD7 => [0xD7#8]
  | .unimpD8 => [0xD8#8]
  | .unimpD9 => [0xD9#8]
  | .unimpDA => [0xDA#8]
  | .unimpDB => [0xDB#8]
  | .unimpDC => [0xDC#8]
  | .unimpDD => [0xDD#8]
  | .unimpDE => [0xDE#8]
  | .unimpDF => [0xDF#8]
  | .movBA => [0xE0#8]
  | .movCA => [0xE1#8]
  | .movHA => [0xE2#8]
  | .movLA => [0xE3#8]
  | .movAA => [0xE4#8]
  | .movMA => [0xE5#8]
  | .unimpE6 => [0xE6#8]
  | .unimpE7 => [0xE7#8]
  | .unimpE8 => [0xE8#8]
  | .unimpE9 => [0xE9#8]
  | .unimpEA => [0xEA#8]
  | .unimpEB => [0xEB#8]
  | .unimpEC => [0xEC#8]
  | .unimpED => [0xED#8]
  | .unimpEE => [0xEE#8]
  | .unimpEF => [0xEF#8]
  | .movBM => [0xF0#8]
  | .movCM => [0xF1#8]
  | .movHM => [0xF2#8]
  | .movLM => [0xF3#8]
  | .movAM => [0xF4#8]
  | .movMM => [0xF5#8]
  | .unimpF6 => [0xF6#8]
  | .unimpF7 => [0xF7#8]
  | .unimpF8 => [0xF8#8]
  | .unimpF9 => [0xF9#8]
  | .unimpFA => [0xFA#8]
  | .unimpFB => [0xFB#8]
  | .unimpFC => [0xFC#8]
  | .unimpFD => [0xFD#8]
  | .unimpFE => [0xFE#8]
  | .hlt => [0xFF#8]

/-- The opcode byte of an instruction. -/
def Instr.opcode (i : Instr) : Byte := (encode i).headD 0x00#8

/-- Byte `k` of a number whose bit 0 is the least significant bit of the first byte. -/
def byteOf (w k : Nat) : Byte := BitVec.ofNat 8 (w / 2 ^ (8 * k))

/-- The longest instruction's three bytes (R70) of the `nbits` low bits of `w`; the bits above are 0. -/
def wordBytes (nbits w : Nat) : List Byte :=
  [byteOf (w % 2 ^ nbits) 0, byteOf (w % 2 ^ nbits) 1, byteOf (w % 2 ^ nbits) 2]

/-- What the decoder reads from the `nbits` bits `w`, numbered as spec/opcode_table.json numbers them. -/
def decodeTableWord (nbits w : Nat) : Option Instr :=
  match decode (wordBytes nbits w) with
  | .ok (i, _) => some i
  | .error _ => none

end Sys2Proof
end

