-- ==== Sys2Proof/WellFormed.lean ====
section
/-! DEFINITION. Well-formedness: of an instruction, and of the implementation parameters. -/

namespace Sys2Proof

/-- Every instruction is well-formed: no operand byte is ever checked (R80) and no opcode is illegal (R79).
What the types do not already say is said of the parameters, below, and of assembler text
(`Machine.Asm.wellFormed`). -/
def Instr.wellFormed (_ : Instr) : Bool := true

/-- The five named registers have five different roles: the table is one-to-one onto {B, C, H, L, A} (R8, R23). -/
def RoleTable.wellFormed (t : RoleTable) : Bool :=
  [t.b, t.c, t.h, t.l, t.a].Nodup

/-- `1024 <= MEM_SIZE <= 65536` (R8, D6). -/
def Params.memSizeOk (p : Params) : Bool := 1024 ≤ p.memSize && p.memSize ≤ 65536

/-- `GUARD_BYTES` is not empty (R8, D16) and lies inside the staging region after the safe part (R204). -/
def Params.guardOk (p : Params) : Bool :=
  !p.guardBytes.isEmpty && Config.safeCap + p.guardBytes.length ≤ Config.unsafeRegionSize

/-- The parameter values the spec allows (R7, R8, R201). -/
def Params.wellFormed (p : Params) : Bool :=
  p.memSizeOk && p.roleTable.wellFormed && p.guardOk

end Sys2Proof
end

