-- ==== Sys2Proof/Machine/State.lean ====
section
/-! DEFINITION. The machine's state as plain data (10_state.md), its reset value, and the reasons a step can stop. -/

namespace Sys2Proof.Machine

/-- The events of the report trace (10_state.md R42; the codes are `Event.code`). -/
inductive Event where
  /-- `OOB_READ(addr)` (R51). -/
  | oobRead (addr : Nat)
  /-- `OOB_WRITE(addr, v)` (R52). -/
  | oobWrite (addr : Nat) (v : Byte)
  /-- `SYSCALL(id)` (R123). -/
  | syscall (id : Byte)
  /-- `GUARD_FAIL(bytes)` (R207). -/
  | guardFail (bytes : List Byte)
deriving DecidableEq, Repr

/-- The five physical registers, each of 8 bits (R20, R22, R24). -/
structure RegFile where
  x0 : Byte
  x1 : Byte
  x2 : Byte
  x3 : Byte
  x4 : Byte
deriving DecidableEq, Repr

/-- Memory: the bytes that are not 0x00, by rising address. An address with no entry reads as 0x00, the reset
value of every byte (R39, R41). `Memory.wf` is the form, `Memory.read` and `Memory.write` the accesses
(Machine/Memory.lean). -/
abbrev Memory := List Host.Cell

/-- The state. The first six fields are the Machine State of R20; `trace` is the host-visible report trace
(R42; log 14); `params` is the configuration, which no step and no reset changes (R38, R270; log 1). -/
structure State where
  /-- `mem` (R20, R21). -/
  mem : Memory
  /-- `x[0] .. x[4]` (R20, R22). -/
  regs : RegFile
  /-- `pc`: 16 bits under `wrap16`, a natural number under `linear` (R20, R31; log 2). -/
  pc : Nat
  /-- `sp`, reserved and unused (R20, R32). -/
  sp : Word16
  /-- `flags`: N at bit 7, Z at bit 6, the others always 0 (R20, R33). -/
  flags : Byte
  /-- `halted`: false is RUNNING, true is HALTED (R20, R36, R100). -/
  halted : Bool
  /-- The report trace, oldest event first (R42, R242). -/
  trace : List Event
  /-- The implementation parameters (R7, R8, R201). -/
  params : Params
deriving DecidableEq, Repr

/-- Why a step takes no next state. -/
inductive Fault where
  /-- Raised by `step` alone, on a HALTED machine: "no step is taken from it until reset" (R100, R101). The
  state is untouched. Safe (log 3). -/
  | halted
deriving DecidableEq, Repr

/-- Why an instruction has no meaning. No arm of `exec` and no meaning uses it: every opcode is defined (R79). -/
inductive Refusal where
  /-- Raised by an arm of `exec` whose instruction has no meaning yet. There is none. Safe. -/
  | notModelled (mnemonic : String)
deriving DecidableEq, Repr

/-- The registers after reset (R39). -/
def RegFile.zero : RegFile :=
  { x0 := 0x00#8, x1 := 0x00#8, x2 := 0x00#8, x3 := 0x00#8, x4 := 0x00#8 }

/-- The machine right after reset, at the spec's default parameters: everything zero, RUNNING (R39, R40). The
trace is empty, since nothing has been reported (R42). -/
def State.reset : State :=
  { mem := []
    regs := RegFile.zero
    pc := 0x0000
    sp := 0x0000#16
    flags := 0x00#8
    halted := false
    trace := []
    params := Params.default }

end Sys2Proof.Machine
end

