-- ==== Sys2Proof/Machine/Ops.lean ====
section
/-! DEFINITION. The named operations over registers, memory, the program counter and the report trace: the
primitives of 00_scope.md R11, and the one operation every halting event performs. -/

namespace Sys2Proof.Machine

/-! ## Registers -/

/-- The register of a role (R20). -/
def RegFile.get (f : RegFile) : Reg → Byte
  | .r0 => f.x0
  | .r1 => f.x1
  | .r2 => f.x2
  | .r3 => f.x3
  | .r4 => f.x4

/-- The registers with one of them replaced (R20). -/
def RegFile.set (f : RegFile) (r : Reg) (v : Byte) : RegFile :=
  match r with
  | .r0 => { f with x0 := v }
  | .r1 => { f with x1 := v }
  | .r2 => { f with x2 := v }
  | .r3 => { f with x3 := v }
  | .r4 => { f with x4 := v }

/-- `x[r]` as a read (R11). -/
def readReg (r : Reg) (s : State) : Byte := s.regs.get r

/-- `x[r] <- v` (R11). -/
def writeReg (r : Reg) (v : Byte) (s : State) : State := { s with regs := s.regs.set r v }

/-- The role `ROLE_TABLE` gives a named register (R23). -/
def namedReg (t : RoleTable) : RegName → Reg
  | .B => t.b
  | .C => t.c
  | .H => t.h
  | .L => t.l
  | .A => t.a

/-- `x[A]`, the accumulator, by its name (R23). -/
def readAcc (s : State) : Byte := readReg (namedReg s.params.roleTable .A) s

/-- `x[A] <- v` (R23). -/
def writeAcc (v : Byte) (s : State) : State := writeReg (namedReg s.params.roleTable .A) v s

/-- `PairValue()`: H in the upper byte, L in the lower (R25). -/
def pairValue (s : State) : Word16 :=
  concat16 (readReg (namedReg s.params.roleTable .H) s) (readReg (namedReg s.params.roleTable .L) s)

/-! ## Reports and halting events -/

/-- `Report(e)`: appends to the trace (R11, R242). -/
def report (e : Event) (s : State) : State := { s with trace := s.trace ++ [e] }

/-- The event's code (R241). Code 4 is budget exhaustion, a run outcome and no event of the trace. -/
def Event.code : Event → Nat
  | .oobRead _ => 1
  | .oobWrite _ _ => 2
  | .syscall _ => 3
  | .guardFail _ => 5

/-- `raise`: what every halting event does, whole: it reports and sets `halted`. Nothing is saved and nothing
else changes (R243, R244, R248). The handler that raised it goes on (R105). -/
def raiseHalt (e : Event) (s : State) : State := { report e s with halted := true }

/-- `raise SyscallHalt(id)` (R244). -/
def raiseSyscallHalt (id : Byte) (s : State) : State := raiseHalt (.syscall id) s

/-! ## Memory -/

/-- `MemRead(addr, 1)`: out of bounds it halts, reports and gives the placeholder 0x00 (R51). -/
def memRead (addr : Nat) (s : State) : Byte × State :=
  if addr < s.params.memSize then (s.mem.read addr, s) else (0x00#8, raiseHalt (.oobRead addr) s)

/-- `MemWrite(addr, 1, v)`: out of bounds it halts, reports and discards the write (R52). -/
def memWrite (addr : Nat) (v : Byte) (s : State) : State :=
  if addr < s.params.memSize then { s with mem := s.mem.write addr v } else raiseHalt (.oobWrite addr v) s

/-! ## The program counter -/

/-- The address after `pc`, by `PC_OVERFLOW` (R31). -/
def pcAfter (p : Params) (pc : Nat) : Nat :=
  match p.pcOverflow with
  | .wrap16 => (pc + 1) % 65536
  | .linear => pc + 1

/-- `pc <- pc + 1` (R28, R31). -/
def advancePc (s : State) : State := { s with pc := pcAfter s.params s.pc }

/-- The address `k` bytes on in the instruction stream (R28, R31). -/
def pcPlus (p : Params) (pc : Nat) : Nat → Nat
  | 0 => pc
  | k + 1 => pcAfter p (pcPlus p pc k)

/-- `Fetch8()`: reads the byte at `pc` and advances `pc`, out of bounds too (R103). -/
def fetch8 (s : State) : Byte × State := ((memRead s.pc s).1, advancePc (memRead s.pc s).2)

/-! ## Leaving HALTED

There is no return from a halting event. The only way out of HALTED is reset (R252). -/

/-- `Reset()`: every field of the Machine State to its reset value; the configuration and the host's trace
stay (R39, R270). -/
def resetMachine (s : State) : State :=
  { State.reset with trace := s.trace, params := s.params }

/-! ## The two handlers that do nothing -/

/-- The no-op handler (R120). -/
def noOperation (s : State) : State := s

/-- The "unimplemented" handler: a silent no-op (R124, R247). -/
def unimplemented (s : State) : State := s

end Sys2Proof.Machine
end

