-- ==== Sys2Proof/Machine/Flags.lean ====
section
/-! DEFINITION. The flag register: its two meaningful bits and the one operation that writes them (10_state.md R33 to
R35). There is no carry and no overflow flag. -/

namespace Sys2Proof.Machine

/-- Z (R33). -/
def flagZ (s : State) : Bool := s.flags.getLsbD Config.flagZBit

/-- N (R33). -/
def flagN (s : State) : Bool := s.flags.getLsbD Config.flagNBit

/-- A byte with one bit replaced. -/
def setBit (w : Byte) (k : Nat) (b : Bool) : Byte :=
  (w &&& ~~~(1#8 <<< k)) ||| (BitVec.zeroExtend 8 (BitVec.ofBool b) <<< k)

/-- `SetFlags(v)`: Z says whether `v` is 0x00, N is `v[7]`, both written every time; the other bits stay (R34). -/
def setFlags (v : Byte) (s : State) : State :=
  { s with flags := setBit (setBit s.flags Config.flagZBit (v == 0x00#8)) Config.flagNBit (v.getLsbD 7) }

end Sys2Proof.Machine
end

