-- ==== Sys2Proof/Machine/Operands.lean ====
section
/-! DEFINITION. Operand forms: role access (10_state.md R27), the absolute address (R73) and the move selectors
(30_encoding.md R75). The immediate of LDI is used unchanged (R72). -/

namespace Sys2Proof.Machine

/-- `ReadRole(r)`: M is read from memory at the pointer pair, taken now (R27). -/
def readRole (r : Role) (s : State) : Byte × State :=
  match r with
  | .reg r => (readReg r s, s)
  | .m => memRead (pairValue s).toNat s

/-- `WriteRole(r, v)`: M is written to memory at the pointer pair, taken now (R27). -/
def writeRole (r : Role) (v : Byte) (s : State) : State :=
  match r with
  | .reg r => writeReg r v s
  | .m => memWrite (pairValue s).toNat v s

/-- `addr16 = (hi << 8) | lo`, the effective address of STA (R73). -/
def addr16 (lo hi : Byte) : Nat := (concat16 hi lo).toNat

/-- The role of an index 0 to 5 (R22, R23). -/
def roleOfIndex (n : Nat) : Option Role :=
  match n with
  | 0 => some (.reg .r0)
  | 1 => some (.reg .r1)
  | 2 => some (.reg .r2)
  | 3 => some (.reg .r3)
  | 4 => some (.reg .r4)
  | 5 => some .m
  | _ => none

/-- The index of a role (R23). -/
def roleIndex : Role → Nat
  | .reg .r0 => 0
  | .reg .r1 => 1
  | .reg .r2 => 2
  | .reg .r3 => 3
  | .reg .r4 => 4
  | .m => 5

/-- `role(n)` of a 4-bit selector: 0x0 to 0x5 directly, 0xA to 0xF by subtracting 0xA, 0x6 to 0x9 invalid (R75). -/
def selectorRole (n : BitVec 4) : Option Role :=
  if n.toNat ≤ 0x5 then roleOfIndex n.toNat
  else if 0xA ≤ n.toNat then roleOfIndex (n.toNat - 0xA)
  else none

/-- The move group's opcodes: high nibble 0xA to 0xF, low nibble 0x0 to 0x5 (R74, R77, R140). -/
def isMoveOpcode (op : Byte) : Bool := 0xA ≤ (highNibble op).toNat && (lowNibble op).toNat ≤ 0x5

/-- The opcodes with no explicit handler (R124). -/
def isUnimplementedOpcode (op : Byte) : Bool :=
  !(isMoveOpcode op || [0x00#8, 0x04#8, 0x43#8, 0x95#8, 0xFF#8].contains op)

end Sys2Proof.Machine
end

