-- ==== Sys2Proof/Machine/Alu.lean ====
section
/-! DEFINITION. The ALU group, whose one member is INC (43_alu.md). -/

namespace Sys2Proof.Machine

/-- INC: the accumulator plus one modulo 256, and the flags of the new value (R190, R191). -/
def increment (s : State) : State := setFlags (readAcc s + 1#8) (writeAcc (readAcc s + 1#8) s)

/-- `95`, `INC` (R190). -/
def execInc (s : State) : Host.Outcome State Fault Refusal := .next (increment s)

end Sys2Proof.Machine
end

