-- ==== Sys2Proof/Machine/Basic.lean ====
section
/-! DEFINITION. The single-opcode instructions NOP, LDI, STA and HLT (41_basic.md). The operand bytes arrive as
arguments: the fetch has read them, in order, and `pc` is already past them (log 15). -/

namespace Sys2Proof.Machine

/-- LDI after its operand read: the accumulator and the flags (R121). -/
def loadImmediate (v : Byte) (s : State) : State := setFlags v (writeAcc v s)

/-- STA after its operand reads: one write of the accumulator (R122). -/
def storeAbsolute (lo hi : Byte) (s : State) : State := memWrite (addr16 lo hi) (readAcc s) s

/-- HLT: the accumulator is the call identifier (R123). -/
def haltOnSyscall (s : State) : State := raiseSyscallHalt (readAcc s) s

/-- `00`, `NOP` (R120). -/
def execNop (s : State) : Host.Outcome State Fault Refusal := .next (noOperation s)

/-- `43 imm8`, `LDI v` (R121). -/
def execLdi (imm8 : Byte) (s : State) : Host.Outcome State Fault Refusal := .next (loadImmediate imm8 s)

/-- `04 lo hi`, `STA addr` (R122). -/
def execSta (lo hi : Byte) (s : State) : Host.Outcome State Fault Refusal := .next (storeAbsolute lo hi s)

/-- `FF`, `HLT` (R123). -/
def execHlt (s : State) : Host.Outcome State Fault Refusal := .next (haltOnSyscall s)

end Sys2Proof.Machine
end

