-- ==== Sys2Proof/Machine/Move.lean ====
section
/-! DEFINITION. The move group (42_move.md): one definition per opcode over the group's one operation `move`
(R140). Each opcode's roles are fixed; the register names are those of the default ROLE_TABLE. -/

namespace Sys2Proof.Machine

/-- R140, the effect after the selectors are decoded: the source is read completely, then the destination is
written; the M address is taken at each access (R141). No flag changes (R143). -/
def move (dst src : Role) (s : State) : State :=
  writeRole dst (readRole src s).1 (readRole src s).2

/-- `A0`, `MOV B, B`: role 0 into role 0 (R144). -/
def execMovBB (s : State) : Host.Outcome State Fault Refusal :=
  .next (move (.reg .r0) (.reg .r0) s)

/-- `A1`, `MOV C, B`: role 0 into role 1 (R145). -/
def execMovCB (s : State) : Host.Outcome State Fault Refusal :=
  .next (move (.reg .r1) (.reg .r0) s)

/-- `A2`, `MOV H, B`: role 0 into role 2 (R146). -/
def execMovHB (s : State) : Host.Outcome State Fault Refusal :=
  .next (move (.reg .r2) (.reg .r0) s)

/-- `A3`, `MOV L, B`: role 0 into role 3 (R147). -/
def execMovLB (s : State) : Host.Outcome State Fault Refusal :=
  .next (move (.reg .r3) (.reg .r0) s)

/-- `A4`, `MOV A, B`: role 0 into role 4 (R148). -/
def execMovAB (s : State) : Host.Outcome State Fault Refusal :=
  .next (move (.reg .r4) (.reg .r0) s)

/-- `A5`, `MOV M, B`: role 0 into role 5 (R149). -/
def execMovMB (s : State) : Host.Outcome State Fault Refusal :=
  .next (move .m (.reg .r0) s)

/-- `B0`, `MOV B, C`: role 1 into role 0 (R150). -/
def execMovBC (s : State) : Host.Outcome State Fault Refusal :=
  .next (move (.reg .r0) (.reg .r1) s)

/-- `B1`, `MOV C, C`: role 1 into role 1 (R151). -/
def execMovCC (s : State) : Host.Outcome State Fault Refusal :=
  .next (move (.reg .r1) (.reg .r1) s)

/-- `B2`, `MOV H, C`: role 1 into role 2 (R152). -/
def execMovHC (s : State) : Host.Outcome State Fault Refusal :=
  .next (move (.reg .r2) (.reg .r1) s)

/-- `B3`, `MOV L, C`: role 1 into role 3 (R153). -/
def execMovLC (s : State) : Host.Outcome State Fault Refusal :=
  .next (move (.reg .r3) (.reg .r1) s)

/-- `B4`, `MOV A, C`: role 1 into role 4 (R154). -/
def execMovAC (s : State) : Host.Outcome State Fault Refusal :=
  .next (move (.reg .r4) (.reg .r1) s)

/-- `B5`, `MOV M, C`: role 1 into role 5 (R155). -/
def execMovMC (s : State) : Host.Outcome State Fault Refusal :=
  .next (move .m (.reg .r1) s)

/-- `C0`, `MOV B, H`: role 2 into role 0 (R156). -/
def execMovBH (s : State) : Host.Outcome State Fault Refusal :=
  .next (move (.reg .r0) (.reg .r2) s)

/-- `C1`, `MOV C, H`: role 2 into role 1 (R157). -/
def execMovCH (s : State) : Host.Outcome State Fault Refusal :=
  .next (move (.reg .r1) (.reg .r2) s)

/-- `C2`, `MOV H, H`: role 2 into role 2 (R158). -/
def execMovHH (s : State) : Host.Outcome State Fault Refusal :=
  .next (move (.reg .r2) (.reg .r2) s)

/-- `C3`, `MOV L, H`: role 2 into role 3 (R159). -/
def execMovLH (s : State) : Host.Outcome State Fault Refusal :=
  .next (move (.reg .r3) (.reg .r2) s)

/-- `C4`, `MOV A, H`: role 2 into role 4 (R160). -/
def execMovAH (s : State) : Host.Outcome State Fault Refusal :=
  .next (move (.reg .r4) (.reg .r2) s)

/-- `C5`, `MOV M, H`: role 2 into role 5 (R161). -/
def execMovMH (s : State) : Host.Outcome State Fault Refusal :=
  .next (move .m (.reg .r2) s)

/-- `D0`, `MOV B, L`: role 3 into role 0 (R162). -/
def execMovBL (s : State) : Host.Outcome State Fault Refusal :=
  .next (move (.reg .r0) (.reg .r3) s)

/-- `D1`, `MOV C, L`: role 3 into role 1 (R163). -/
def execMovCL (s : State) : Host.Outcome State Fault Refusal :=
  .next (move (.reg .r1) (.reg .r3) s)

/-- `D2`, `MOV H, L`: role 3 into role 2 (R164). -/
def execMovHL (s : State) : Host.Outcome State Fault Refusal :=
  .next (move (.reg .r2) (.reg .r3) s)

/-- `D3`, `MOV L, L`: role 3 into role 3 (R165). -/
def execMovLL (s : State) : Host.Outcome State Fault Refusal :=
  .next (move (.reg .r3) (.reg .r3) s)

/-- `D4`, `MOV A, L`: role 3 into role 4 (R166). -/
def execMovAL (s : State) : Host.Outcome State Fault Refusal :=
  .next (move (.reg .r4) (.reg .r3) s)

/-- `D5`, `MOV M, L`: role 3 into role 5 (R167). -/
def execMovML (s : State) : Host.Outcome State Fault Refusal :=
  .next (move .m (.reg .r3) s)

/-- `E0`, `MOV B, A`: role 4 into role 0 (R168). -/
def execMovBA (s : State) : Host.Outcome State Fault Refusal :=
  .next (move (.reg .r0) (.reg .r4) s)

/-- `E1`, `MOV C, A`: role 4 into role 1 (R169). -/
def execMovCA (s : State) : Host.Outcome State Fault Refusal :=
  .next (move (.reg .r1) (.reg .r4) s)

/-- `E2`, `MOV H, A`: role 4 into role 2 (R170). -/
def execMovHA (s : State) : Host.Outcome State Fault Refusal :=
  .next (move (.reg .r2) (.reg .r4) s)

/-- `E3`, `MOV L, A`: role 4 into role 3 (R171). -/
def execMovLA (s : State) : Host.Outcome State Fault Refusal :=
  .next (move (.reg .r3) (.reg .r4) s)

/-- `E4`, `MOV A, A`: role 4 into role 4 (R172). -/
def execMovAA (s : State) : Host.Outcome State Fault Refusal :=
  .next (move (.reg .r4) (.reg .r4) s)

/-- `E5`, `MOV M, A`: role 4 into role 5 (R173). -/
def execMovMA (s : State) : Host.Outcome State Fault Refusal :=
  .next (move .m (.reg .r4) s)

/-- `F0`, `MOV B, M`: role 5 into role 0 (R174). -/
def execMovBM (s : State) : Host.Outcome State Fault Refusal :=
  .next (move (.reg .r0) .m s)

/-- `F1`, `MOV C, M`: role 5 into role 1 (R175). -/
def execMovCM (s : State) : Host.Outcome State Fault Refusal :=
  .next (move (.reg .r1) .m s)

/-- `F2`, `MOV H, M`: role 5 into role 2 (R176). -/
def execMovHM (s : State) : Host.Outcome State Fault Refusal :=
  .next (move (.reg .r2) .m s)

/-- `F3`, `MOV L, M`: role 5 into role 3 (R177). -/
def execMovLM (s : State) : Host.Outcome State Fault Refusal :=
  .next (move (.reg .r3) .m s)

/-- `F4`, `MOV A, M`: role 5 into role 4 (R178). -/
def execMovAM (s : State) : Host.Outcome State Fault Refusal :=
  .next (move (.reg .r4) .m s)

/-- `F5`, `MOV M, M`: role 5 into role 5 (R179). -/
def execMovMM (s : State) : Host.Outcome State Fault Refusal :=
  .next (move .m .m s)

end Sys2Proof.Machine
end

