-- ==== Sys2Proof/Machine/Unimp.lean ====
section
/-! DEFINITION. The 215 unimplemented opcodes, each a silent no-op (41_basic.md R124, 60_exceptions.md R247,
90_conflicts.md C1). Each has a definition of its own over the one handler `unimplemented`. -/

namespace Sys2Proof.Machine

/-- `UNIMP_0x01` (R124). -/
def execUnimp01 (s : State) : Host.Outcome State Fault Refusal := .next (unimplemented s)

/-- `UNIMP_0x02` (R124). -/
def execUnimp02 (s : State) : Host.Outcome State Fault Refusal := .next (unimplemented s)

/-- `UNIMP_0x03` (R124). -/
def execUnimp03 (s : State) : Host.Outcome State Fault Refusal := .next (unimplemented s)

/-- `UNIMP_0x05` (R124). -/
def execUnimp05 (s : State) : Host.Outcome State Fault Refusal := .next (unimplemented s)

/-- `UNIMP_0x06` (R124). -/
def execUnimp06 (s : State) : Host.Outcome State Fault Refusal := .next (unimplemented s)

/-- `UNIMP_0x07` (R124). -/
def execUnimp07 (s : State) : Host.Outcome State Fault Refusal := .next (unimplemented s)

/-- `UNIMP_0x08` (R124). -/
def execUnimp08 (s : State) : Host.Outcome State Fault Refusal := .next (unimplemented s)

/-- `UNIMP_0x09` (R124). -/
def execUnimp09 (s : State) : Host.Outcome State Fault Refusal := .next (unimplemented s)

/-- `UNIMP_0x0A` (R124). -/
def execUnimp0A (s : State) : Host.Outcome State Fault Refusal := .next (unimplemented s)

/-- `UNIMP_0x0B` (R124). -/
def execUnimp0B (s : State) : Host.Outcome State Fault Refusal := .next (unimplemented s)

/-- `UNIMP_0x0C` (R124). -/
def execUnimp0C (s : State) : Host.Outcome State Fault Refusal := .next (unimplemented s)

/-- `UNIMP_0x0D` (R124). -/
def execUnimp0D (s : State) : Host.Outcome State Fault Refusal := .next (unimplemented s)

/-- `UNIMP_0x0E` (R124). -/
def execUnimp0E (s : State) : Host.Outcome State Fault Refusal := .next (unimplemented s)

/-- `UNIMP_0x0F` (R124). -/
def execUnimp0F (s : State) : Host.Outcome State Fault Refusal := .next (unimplemented s)

/-- `UNIMP_0x10` (R124). -/
def execUnimp10 (s : State) : Host.Outcome State Fault Refusal := .next (unimplemented s)

/-- `UNIMP_0x11` (R124). -/
def execUnimp11 (s : State) : Host.Outcome State Fault Refusal := .next (unimplemented s)

/-- `UNIMP_0x12` (R124). -/
def execUnimp12 (s : State) : Host.Outcome State Fault Refusal := .next (unimplemented s)

/-- `UNIMP_0x13` (R124). -/
def execUnimp13 (s : State) : Host.Outcome State Fault Refusal := .next (unimplemented s)

/-- `UNIMP_0x14` (R124). -/
def execUnimp14 (s : State) : Host.Outcome State Fault Refusal := .next (unimplemented s)

/-- `UNIMP_0x15` (R124). -/
def execUnimp15 (s : State) : Host.Outcome State Fault Refusal := .next (unimplemented s)

/-- `UNIMP_0x16` (R124). -/
def execUnimp16 (s : State) : Host.Outcome State Fault Refusal := .next (unimplemented s)

/-- `UNIMP_0x17` (R124). -/
def execUnimp17 (s : State) : Host.Outcome State Fault Refusal := .next (unimplemented s)

/-- `UNIMP_0x18` (R124). -/
def execUnimp18 (s : State) : Host.Outcome State Fault Refusal := .next (unimplemented s)

/-- `UNIMP_0x19` (R124). -/
def execUnimp19 (s : State) : Host.Outcome State Fault Refusal := .next (unimplemented s)

/-- `UNIMP_0x1A` (R124). -/
def execUnimp1A (s : State) : Host.Outcome State Fault Refusal := .next (unimplemented s)

/-- `UNIMP_0x1B` (R124). -/
def execUnimp1B (s : State) : Host.Outcome State Fault Refusal := .next (unimplemented s)

/-- `UNIMP_0x1C` (R124). -/
def execUnimp1C (s : State) : Host.Outcome State Fault Refusal := .next (unimplemented s)

/-- `UNIMP_0x1D` (R124). -/
def execUnimp1D (s : State) : Host.Outcome State Fault Refusal := .next (unimplemented s)

/-- `UNIMP_0x1E` (R124). -/
def execUnimp1E (s : State) : Host.Outcome State Fault Refusal := .next (unimplemented s)

/-- `UNIMP_0x1F` (R124). -/
def execUnimp1F (s : State) : Host.Outcome State Fault Refusal := .next (unimplemented s)

/-- `UNIMP_0x20` (R124). -/
def execUnimp20 (s : State) : Host.Outcome State Fault Refusal := .next (unimplemented s)

/-- `UNIMP_0x21` (R124). -/
def execUnimp21 (s : State) : Host.Outcome State Fault Refusal := .next (unimplemented s)

/-- `UNIMP_0x22` (R124). -/
def execUnimp22 (s : State) : Host.Outcome State Fault Refusal := .next (unimplemented s)

/-- `UNIMP_0x23` (R124). -/
def execUnimp23 (s : State) : Host.Outcome State Fault Refusal := .next (unimplemented s)

/-- `UNIMP_0x24` (R124). -/
def execUnimp24 (s : State) : Host.Outcome State Fault Refusal := .next (unimplemented s)

/-- `UNIMP_0x25` (R124). -/
def execUnimp25 (s : State) : Host.Outcome State Fault Refusal := .next (unimplemented s)

/-- `UNIMP_0x26` (R124). -/
def execUnimp26 (s : State) : Host.Outcome State Fault Refusal := .next (unimplemented s)

/-- `UNIMP_0x27` (R124). -/
def execUnimp27 (s : State) : Host.Outcome State Fault Refusal := .next (unimplemented s)

/-- `UNIMP_0x28` (R124). -/
def execUnimp28 (s : State) : Host.Outcome State Fault Refusal := .next (unimplemented s)

/-- `UNIMP_0x29` (R124). -/
def execUnimp29 (s : State) : Host.Outcome State Fault Refusal := .next (unimplemented s)

/-- `UNIMP_0x2A` (R124). -/
def execUnimp2A (s : State) : Host.Outcome State Fault Refusal := .next (unimplemented s)

/-- `UNIMP_0x2B` (R124). -/
def execUnimp2B (s : State) : Host.Outcome State Fault Refusal := .next (unimplemented s)

/-- `UNIMP_0x2C` (R124). -/
def execUnimp2C (s : State) : Host.Outcome State Fault Refusal := .next (unimplemented s)

/-- `UNIMP_0x2D` (R124). -/
def execUnimp2D (s : State) : Host.Outcome State Fault Refusal := .next (unimplemented s)

/-- `UNIMP_0x2E` (R124). -/
def execUnimp2E (s : State) : Host.Outcome State Fault Refusal := .next (unimplemented s)

/-- `UNIMP_0x2F` (R124). -/
def execUnimp2F (s : State) : Host.Outcome State Fault Refusal := .next (unimplemented s)

/-- `UNIMP_0x30` (R124). -/
def execUnimp30 (s : State) : Host.Outcome State Fault Refusal := .next (unimplemented s)

/-- `UNIMP_0x31` (R124). -/
def execUnimp31 (s : State) : Host.Outcome State Fault Refusal := .next (unimplemented s)

/-- `UNIMP_0x32` (R124). -/
def execUnimp32 (s : State) : Host.Outcome State Fault Refusal := .next (unimplemented s)

/-- `UNIMP_0x33` (R124). -/
def execUnimp33 (s : State) : Host.Outcome State Fault Refusal := .next (unimplemented s)

/-- `UNIMP_0x34` (R124). -/
def execUnimp34 (s : State) : Host.Outcome State Fault Refusal := .next (unimplemented s)

/-- `UNIMP_0x35` (R124). -/
def execUnimp35 (s : State) : Host.Outcome State Fault Refusal := .next (unimplemented s)

/-- `UNIMP_0x36` (R124). -/
def execUnimp36 (s : State) : Host.Outcome State Fault Refusal := .next (unimplemented s)

/-- `UNIMP_0x37` (R124). -/
def execUnimp37 (s : State) : Host.Outcome State Fault Refusal := .next (unimplemented s)

/-- `UNIMP_0x38` (R124). -/
def execUnimp38 (s : State) : Host.Outcome State Fault Refusal := .next (unimplemented s)

/-- `UNIMP_0x39` (R124). -/
def execUnimp39 (s : State) : Host.Outcome State Fault Refusal := .next (unimplemented s)

/-- `UNIMP_0x3A` (R124). -/
def execUnimp3A (s : State) : Host.Outcome State Fault Refusal := .next (unimplemented s)

/-- `UNIMP_0x3B` (R124). -/
def execUnimp3B (s : State) : Host.Outcome State Fault Refusal := .next (unimplemented s)

/-- `UNIMP_0x3C` (R124). -/
def execUnimp3C (s : State) : Host.Outcome State Fault Refusal := .next (unimplemented s)

/-- `UNIMP_0x3D` (R124). -/
def execUnimp3D (s : State) : Host.Outcome State Fault Refusal := .next (unimplemented s)

/-- `UNIMP_0x3E` (R124). -/
def execUnimp3E (s : State) : Host.Outcome State Fault Refusal := .next (unimplemented s)

/-- `UNIMP_0x3F` (R124). -/
def execUnimp3F (s : State) : Host.Outcome State Fault Refusal := .next (unimplemented s)

/-- `UNIMP_0x40` (R124). -/
def execUnimp40 (s : State) : Host.Outcome State Fault Refusal := .next (unimplemented s)

/-- `UNIMP_0x41` (R124). -/
def execUnimp41 (s : State) : Host.Outcome State Fault Refusal := .next (unimplemented s)

/-- `UNIMP_0x42` (R124). -/
def execUnimp42 (s : State) : Host.Outcome State Fault Refusal := .next (unimplemented s)

/-- `UNIMP_0x44` (R124). -/
def execUnimp44 (s : State) : Host.Outcome State Fault Refusal := .next (unimplemented s)

/-- `UNIMP_0x45` (R124). -/
def execUnimp45 (s : State) : Host.Outcome State Fault Refusal := .next (unimplemented s)

/-- `UNIMP_0x46` (R124). -/
def execUnimp46 (s : State) : Host.Outcome State Fault Refusal := .next (unimplemented s)

/-- `UNIMP_0x47` (R124). -/
def execUnimp47 (s : State) : Host.Outcome State Fault Refusal := .next (unimplemented s)

/-- `UNIMP_0x48` (R124). -/
def execUnimp48 (s : State) : Host.Outcome State Fault Refusal := .next (unimplemented s)

/-- `UNIMP_0x49` (R124). -/
def execUnimp49 (s : State) : Host.Outcome State Fault Refusal := .next (unimplemented s)

/-- `UNIMP_0x4A` (R124). -/
def execUnimp4A (s : State) : Host.Outcome State Fault Refusal := .next (unimplemented s)

/-- `UNIMP_0x4B` (R124). -/
def execUnimp4B (s : State) : Host.Outcome State Fault Refusal := .next (unimplemented s)

/-- `UNIMP_0x4C` (R124). -/
def execUnimp4C (s : State) : Host.Outcome State Fault Refusal := .next (unimplemented s)

/-- `UNIMP_0x4D` (R124). -/
def execUnimp4D (s : State) : Host.Outcome State Fault Refusal := .next (unimplemented s)

/-- `UNIMP_0x4E` (R124). -/
def execUnimp4E (s : State) : Host.Outcome State Fault Refusal := .next (unimplemented s)

/-- `UNIMP_0x4F` (R124). -/
def execUnimp4F (s : State) : Host.Outcome State Fault Refusal := .next (unimplemented s)

/-- `UNIMP_0x50` (R124). -/
def execUnimp50 (s : State) : Host.Outcome State Fault Refusal := .next (unimplemented s)

/-- `UNIMP_0x51` (R124). -/
def execUnimp51 (s : State) : Host.Outcome State Fault Refusal := .next (unimplemented s)

/-- `UNIMP_0x52` (R124). -/
def execUnimp52 (s : State) : Host.Outcome State Fault Refusal := .next (unimplemented s)

/-- `UNIMP_0x53` (R124). -/
def execUnimp53 (s : State) : Host.Outcome State Fault Refusal := .next (unimplemented s)

/-- `UNIMP_0x54` (R124). -/
def execUnimp54 (s : State) : Host.Outcome State Fault Refusal := .next (unimplemented s)

/-- `UNIMP_0x55` (R124). -/
def execUnimp55 (s : State) : Host.Outcome State Fault Refusal := .next (unimplemented s)

/-- `UNIMP_0x56` (R124). -/
def execUnimp56 (s : State) : Host.Outcome State Fault Refusal := .next (unimplemented s)

/-- `UNIMP_0x57` (R124). -/
def execUnimp57 (s : State) : Host.Outcome State Fault Refusal := .next (unimplemented s)

/-- `UNIMP_0x58` (R124). -/
def execUnimp58 (s : State) : Host.Outcome State Fault Refusal := .next (unimplemented s)

/-- `UNIMP_0x59` (R124). -/
def execUnimp59 (s : State) : Host.Outcome State Fault Refusal := .next (unimplemented s)

/-- `UNIMP_0x5A` (R124). -/
def execUnimp5A (s : State) : Host.Outcome State Fault Refusal := .next (unimplemented s)

/-- `UNIMP_0x5B` (R124). -/
def execUnimp5B (s : State) : Host.Outcome State Fault Refusal := .next (unimplemented s)

/-- `UNIMP_0x5C` (R124). -/
def execUnimp5C (s : State) : Host.Outcome State Fault Refusal := .next (unimplemented s)

/-- `UNIMP_0x5D` (R124). -/
def execUnimp5D (s : State) : Host.Outcome State Fault Refusal := .next (unimplemented s)

/-- `UNIMP_0x5E` (R124). -/
def execUnimp5E (s : State) : Host.Outcome State Fault Refusal := .next (unimplemented s)

/-- `UNIMP_0x5F` (R124). -/
def execUnimp5F (s : State) : Host.Outcome State Fault Refusal := .next (unimplemented s)

/-- `UNIMP_0x60` (R124). -/
def execUnimp60 (s : State) : Host.Outcome State Fault Refusal := .next (unimplemented s)

/-- `UNIMP_0x61` (R124). -/
def execUnimp61 (s : State) : Host.Outcome State Fault Refusal := .next (unimplemented s)

/-- `UNIMP_0x62` (R124). -/
def execUnimp62 (s : State) : Host.Outcome State Fault Refusal := .next (unimplemented s)

/-- `UNIMP_0x63` (R124). -/
def execUnimp63 (s : State) : Host.Outcome State Fault Refusal := .next (unimplemented s)

/-- `UNIMP_0x64` (R124). -/
def execUnimp64 (s : State) : Host.Outcome State Fault Refusal := .next (unimplemented s)

/-- `UNIMP_0x65` (R124). -/
def execUnimp65 (s : State) : Host.Outcome State Fault Refusal := .next (unimplemented s)

/-- `UNIMP_0x66` (R124). -/
def execUnimp66 (s : State) : Host.Outcome State Fault Refusal := .next (unimplemented s)

/-- `UNIMP_0x67` (R124). -/
def execUnimp67 (s : State) : Host.Outcome State Fault Refusal := .next (unimplemented s)

/-- `UNIMP_0x68` (R124). -/
def execUnimp68 (s : State) : Host.Outcome State Fault Refusal := .next (unimplemented s)

/-- `UNIMP_0x69` (R124). -/
def execUnimp69 (s : State) : Host.Outcome State Fault Refusal := .next (unimplemented s)

/-- `UNIMP_0x6A` (R124). -/
def execUnimp6A (s : State) : Host.Outcome State Fault Refusal := .next (unimplemented s)

/-- `UNIMP_0x6B` (R124). -/
def execUnimp6B (s : State) : Host.Outcome State Fault Refusal := .next (unimplemented s)

/-- `UNIMP_0x6C` (R124). -/
def execUnimp6C (s : State) : Host.Outcome State Fault Refusal := .next (unimplemented s)

/-- `UNIMP_0x6D` (R124). -/
def execUnimp6D (s : State) : Host.Outcome State Fault Refusal := .next (unimplemented s)

/-- `UNIMP_0x6E` (R124). -/
def execUnimp6E (s : State) : Host.Outcome State Fault Refusal := .next (unimplemented s)

/-- `UNIMP_0x6F` (R124). -/
def execUnimp6F (s : State) : Host.Outcome State Fault Refusal := .next (unimplemented s)

/-- `UNIMP_0x70` (R124). -/
def execUnimp70 (s : State) : Host.Outcome State Fault Refusal := .next (unimplemented s)

/-- `UNIMP_0x71` (R124). -/
def execUnimp71 (s : State) : Host.Outcome State Fault Refusal := .next (unimplemented s)

/-- `UNIMP_0x72` (R124). -/
def execUnimp72 (s : State) : Host.Outcome State Fault Refusal := .next (unimplemented s)

/-- `UNIMP_0x73` (R124). -/
def execUnimp73 (s : State) : Host.Outcome State Fault Refusal := .next (unimplemented s)

/-- `UNIMP_0x74` (R124). -/
def execUnimp74 (s : State) : Host.Outcome State Fault Refusal := .next (unimplemented s)

/-- `UNIMP_0x75` (R124). -/
def execUnimp75 (s : State) : Host.Outcome State Fault Refusal := .next (unimplemented s)

/-- `UNIMP_0x76` (R124). -/
def execUnimp76 (s : State) : Host.Outcome State Fault Refusal := .next (unimplemented s)

/-- `UNIMP_0x77` (R124). -/
def execUnimp77 (s : State) : Host.Outcome State Fault Refusal := .next (unimplemented s)

/-- `UNIMP_0x78` (R124). -/
def execUnimp78 (s : State) : Host.Outcome State Fault Refusal := .next (unimplemented s)

/-- `UNIMP_0x79` (R124). -/
def execUnimp79 (s : State) : Host.Outcome State Fault Refusal := .next (unimplemented s)

/-- `UNIMP_0x7A` (R124). -/
def execUnimp7A (s : State) : Host.Outcome State Fault Refusal := .next (unimplemented s)

/-- `UNIMP_0x7B` (R124). -/
def execUnimp7B (s : State) : Host.Outcome State Fault Refusal := .next (unimplemented s)

/-- `UNIMP_0x7C` (R124). -/
def execUnimp7C (s : State) : Host.Outcome State Fault Refusal := .next (unimplemented s)

/-- `UNIMP_0x7D` (R124). -/
def execUnimp7D (s : State) : Host.Outcome State Fault Refusal := .next (unimplemented s)

/-- `UNIMP_0x7E` (R124). -/
def execUnimp7E (s : State) : Host.Outcome State Fault Refusal := .next (unimplemented s)

/-- `UNIMP_0x7F` (R124). -/
def execUnimp7F (s : State) : Host.Outcome State Fault Refusal := .next (unimplemented s)

/-- `UNIMP_0x80` (R124). -/
def execUnimp80 (s : State) : Host.Outcome State Fault Refusal := .next (unimplemented s)

/-- `UNIMP_0x81` (R124). -/
def execUnimp81 (s : State) : Host.Outcome State Fault Refusal := .next (unimplemented s)

/-- `UNIMP_0x82` (R124). -/
def execUnimp82 (s : State) : Host.Outcome State Fault Refusal := .next (unimplemented s)

/-- `UNIMP_0x83` (R124). -/
def execUnimp83 (s : State) : Host.Outcome State Fault Refusal := .next (unimplemented s)

/-- `UNIMP_0x84` (R124). -/
def execUnimp84 (s : State) : Host.Outcome State Fault Refusal := .next (unimplemented s)

/-- `UNIMP_0x85` (R124). -/
def execUnimp85 (s : State) : Host.Outcome State Fault Refusal := .next (unimplemented s)

/-- `UNIMP_0x86` (R124). -/
def execUnimp86 (s : State) : Host.Outcome State Fault Refusal := .next (unimplemented s)

/-- `UNIMP_0x87` (R124). -/
def execUnimp87 (s : State) : Host.Outcome State Fault Refusal := .next (unimplemented s)

/-- `UNIMP_0x88` (R124). -/
def execUnimp88 (s : State) : Host.Outcome State Fault Refusal := .next (unimplemented s)

/-- `UNIMP_0x89` (R124). -/
def execUnimp89 (s : State) : Host.Outcome State Fault Refusal := .next (unimplemented s)

/-- `UNIMP_0x8A` (R124). -/
def execUnimp8A (s : State) : Host.Outcome State Fault Refusal := .next (unimplemented s)

/-- `UNIMP_0x8B` (R124). -/
def execUnimp8B (s : State) : Host.Outcome State Fault Refusal := .next (unimplemented s)

/-- `UNIMP_0x8C` (R124). -/
def execUnimp8C (s : State) : Host.Outcome State Fault Refusal := .next (unimplemented s)

/-- `UNIMP_0x8D` (R124). -/
def execUnimp8D (s : State) : Host.Outcome State Fault Refusal := .next (unimplemented s)

/-- `UNIMP_0x8E` (R124). -/
def execUnimp8E (s : State) : Host.Outcome State Fault Refusal := .next (unimplemented s)

/-- `UNIMP_0x8F` (R124). -/
def execUnimp8F (s : State) : Host.Outcome State Fault Refusal := .next (unimplemented s)

/-- `UNIMP_0x90` (R124). -/
def execUnimp90 (s : State) : Host.Outcome State Fault Refusal := .next (unimplemented s)

/-- `UNIMP_0x91` (R124). -/
def execUnimp91 (s : State) : Host.Outcome State Fault Refusal := .next (unimplemented s)

/-- `UNIMP_0x92` (R124). -/
def execUnimp92 (s : State) : Host.Outcome State Fault Refusal := .next (unimplemented s)

/-- `UNIMP_0x93` (R124). -/
def execUnimp93 (s : State) : Host.Outcome State Fault Refusal := .next (unimplemented s)

/-- `UNIMP_0x94` (R124). -/
def execUnimp94 (s : State) : Host.Outcome State Fault Refusal := .next (unimplemented s)

/-- `UNIMP_0x96` (R124). -/
def execUnimp96 (s : State) : Host.Outcome State Fault Refusal := .next (unimplemented s)

/-- `UNIMP_0x97` (R124). -/
def execUnimp97 (s : State) : Host.Outcome State Fault Refusal := .next (unimplemented s)

/-- `UNIMP_0x98` (R124). -/
def execUnimp98 (s : State) : Host.Outcome State Fault Refusal := .next (unimplemented s)

/-- `UNIMP_0x99` (R124). -/
def execUnimp99 (s : State) : Host.Outcome State Fault Refusal := .next (unimplemented s)

/-- `UNIMP_0x9A` (R124). -/
def execUnimp9A (s : State) : Host.Outcome State Fault Refusal := .next (unimplemented s)

/-- `UNIMP_0x9B` (R124). -/
def execUnimp9B (s : State) : Host.Outcome State Fault Refusal := .next (unimplemented s)

/-- `UNIMP_0x9C` (R124). -/
def execUnimp9C (s : State) : Host.Outcome State Fault Refusal := .next (unimplemented s)

/-- `UNIMP_0x9D` (R124). -/
def execUnimp9D (s : State) : Host.Outcome State Fault Refusal := .next (unimplemented s)

/-- `UNIMP_0x9E` (R124). -/
def execUnimp9E (s : State) : Host.Outcome State Fault Refusal := .next (unimplemented s)

/-- `UNIMP_0x9F` (R124). -/
def execUnimp9F (s : State) : Host.Outcome State Fault Refusal := .next (unimplemented s)

/-- `UNIMP_0xA6` (R124). -/
def execUnimpA6 (s : State) : Host.Outcome State Fault Refusal := .next (unimplemented s)

/-- `UNIMP_0xA7` (R124). -/
def execUnimpA7 (s : State) : Host.Outcome State Fault Refusal := .next (unimplemented s)

/-- `UNIMP_0xA8` (R124). -/
def execUnimpA8 (s : State) : Host.Outcome State Fault Refusal := .next (unimplemented s)

/-- `UNIMP_0xA9` (R124). -/
def execUnimpA9 (s : State) : Host.Outcome State Fault Refusal := .next (unimplemented s)

/-- `UNIMP_0xAA` (R124). -/
def execUnimpAA (s : State) : Host.Outcome State Fault Refusal := .next (unimplemented s)

/-- `UNIMP_0xAB` (R124). -/
def execUnimpAB (s : State) : Host.Outcome State Fault Refusal := .next (unimplemented s)

/-- `UNIMP_0xAC` (R124). -/
def execUnimpAC (s : State) : Host.Outcome State Fault Refusal := .next (unimplemented s)

/-- `UNIMP_0xAD` (R124). -/
def execUnimpAD (s : State) : Host.Outcome State Fault Refusal := .next (unimplemented s)

/-- `UNIMP_0xAE` (R124). -/
def execUnimpAE (s : State) : Host.Outcome State Fault Refusal := .next (unimplemented s)

/-- `UNIMP_0xAF` (R124). -/
def execUnimpAF (s : State) : Host.Outcome State Fault Refusal := .next (unimplemented s)

/-- `UNIMP_0xB6` (R124). -/
def execUnimpB6 (s : State) : Host.Outcome State Fault Refusal := .next (unimplemented s)

/-- `UNIMP_0xB7` (R124). -/
def execUnimpB7 (s : State) : Host.Outcome State Fault Refusal := .next (unimplemented s)

/-- `UNIMP_0xB8` (R124). -/
def execUnimpB8 (s : State) : Host.Outcome State Fault Refusal := .next (unimplemented s)

/-- `UNIMP_0xB9` (R124). -/
def execUnimpB9 (s : State) : Host.Outcome State Fault Refusal := .next (unimplemented s)

/-- `UNIMP_0xBA` (R124). -/
def execUnimpBA (s : State) : Host.Outcome State Fault Refusal := .next (unimplemented s)

/-- `UNIMP_0xBB` (R124). -/
def execUnimpBB (s : State) : Host.Outcome State Fault Refusal := .next (unimplemented s)

/-- `UNIMP_0xBC` (R124). -/
def execUnimpBC (s : State) : Host.Outcome State Fault Refusal := .next (unimplemented s)

/-- `UNIMP_0xBD` (R124). -/
def execUnimpBD (s : State) : Host.Outcome State Fault Refusal := .next (unimplemented s)

/-- `UNIMP_0xBE` (R124). -/
def execUnimpBE (s : State) : Host.Outcome State Fault Refusal := .next (unimplemented s)

/-- `UNIMP_0xBF` (R124). -/
def execUnimpBF (s : State) : Host.Outcome State Fault Refusal := .next (unimplemented s)

/-- `UNIMP_0xC6` (R124). -/
def execUnimpC6 (s : State) : Host.Outcome State Fault Refusal := .next (unimplemented s)

/-- `UNIMP_0xC7` (R124). -/
def execUnimpC7 (s : State) : Host.Outcome State Fault Refusal := .next (unimplemented s)

/-- `UNIMP_0xC8` (R124). -/
def execUnimpC8 (s : State) : Host.Outcome State Fault Refusal := .next (unimplemented s)

/-- `UNIMP_0xC9` (R124). -/
def execUnimpC9 (s : State) : Host.Outcome State Fault Refusal := .next (unimplemented s)

/-- `UNIMP_0xCA` (R124). -/
def execUnimpCA (s : State) : Host.Outcome State Fault Refusal := .next (unimplemented s)

/-- `UNIMP_0xCB` (R124). -/
def execUnimpCB (s : State) : Host.Outcome State Fault Refusal := .next (unimplemented s)

/-- `UNIMP_0xCC` (R124). -/
def execUnimpCC (s : State) : Host.Outcome State Fault Refusal := .next (unimplemented s)

/-- `UNIMP_0xCD` (R124). -/
def execUnimpCD (s : State) : Host.Outcome State Fault Refusal := .next (unimplemented s)

/-- `UNIMP_0xCE` (R124). -/
def execUnimpCE (s : State) : Host.Outcome State Fault Refusal := .next (unimplemented s)

/-- `UNIMP_0xCF` (R124). -/
def execUnimpCF (s : State) : Host.Outcome State Fault Refusal := .next (unimplemented s)

/-- `UNIMP_0xD6` (R124). -/
def execUnimpD6 (s : State) : Host.Outcome State Fault Refusal := .next (unimplemented s)

/-- `UNIMP_0xD7` (R124). -/
def execUnimpD7 (s : State) : Host.Outcome State Fault Refusal := .next (unimplemented s)

/-- `UNIMP_0xD8` (R124). -/
def execUnimpD8 (s : State) : Host.Outcome State Fault Refusal := .next (unimplemented s)

/-- `UNIMP_0xD9` (R124). -/
def execUnimpD9 (s : State) : Host.Outcome State Fault Refusal := .next (unimplemented s)

/-- `UNIMP_0xDA` (R124). -/
def execUnimpDA (s : State) : Host.Outcome State Fault Refusal := .next (unimplemented s)

/-- `UNIMP_0xDB` (R124). -/
def execUnimpDB (s : State) : Host.Outcome State Fault Refusal := .next (unimplemented s)

/-- `UNIMP_0xDC` (R124). -/
def execUnimpDC (s : State) : Host.Outcome State Fault Refusal := .next (unimplemented s)

/-- `UNIMP_0xDD` (R124). -/
def execUnimpDD (s : State) : Host.Outcome State Fault Refusal := .next (unimplemented s)

/-- `UNIMP_0xDE` (R124). -/
def execUnimpDE (s : State) : Host.Outcome State Fault Refusal := .next (unimplemented s)

/-- `UNIMP_0xDF` (R124). -/
def execUnimpDF (s : State) : Host.Outcome State Fault Refusal := .next (unimplemented s)

/-- `UNIMP_0xE6` (R124). -/
def execUnimpE6 (s : State) : Host.Outcome State Fault Refusal := .next (unimplemented s)

/-- `UNIMP_0xE7` (R124). -/
def execUnimpE7 (s : State) : Host.Outcome State Fault Refusal := .next (unimplemented s)

/-- `UNIMP_0xE8` (R124). -/
def execUnimpE8 (s : State) : Host.Outcome State Fault Refusal := .next (unimplemented s)

/-- `UNIMP_0xE9` (R124). -/
def execUnimpE9 (s : State) : Host.Outcome State Fault Refusal := .next (unimplemented s)

/-- `UNIMP_0xEA` (R124). -/
def execUnimpEA (s : State) : Host.Outcome State Fault Refusal := .next (unimplemented s)

/-- `UNIMP_0xEB` (R124). -/
def execUnimpEB (s : State) : Host.Outcome State Fault Refusal := .next (unimplemented s)

/-- `UNIMP_0xEC` (R124). -/
def execUnimpEC (s : State) : Host.Outcome State Fault Refusal := .next (unimplemented s)

/-- `UNIMP_0xED` (R124). -/
def execUnimpED (s : State) : Host.Outcome State Fault Refusal := .next (unimplemented s)

/-- `UNIMP_0xEE` (R124). -/
def execUnimpEE (s : State) : Host.Outcome State Fault Refusal := .next (unimplemented s)

/-- `UNIMP_0xEF` (R124). -/
def execUnimpEF (s : State) : Host.Outcome State Fault Refusal := .next (unimplemented s)

/-- `UNIMP_0xF6` (R124). -/
def execUnimpF6 (s : State) : Host.Outcome State Fault Refusal := .next (unimplemented s)

/-- `UNIMP_0xF7` (R124). -/
def execUnimpF7 (s : State) : Host.Outcome State Fault Refusal := .next (unimplemented s)

/-- `UNIMP_0xF8` (R124). -/
def execUnimpF8 (s : State) : Host.Outcome State Fault Refusal := .next (unimplemented s)

/-- `UNIMP_0xF9` (R124). -/
def execUnimpF9 (s : State) : Host.Outcome State Fault Refusal := .next (unimplemented s)

/-- `UNIMP_0xFA` (R124). -/
def execUnimpFA (s : State) : Host.Outcome State Fault Refusal := .next (unimplemented s)

/-- `UNIMP_0xFB` (R124). -/
def execUnimpFB (s : State) : Host.Outcome State Fault Refusal := .next (unimplemented s)

/-- `UNIMP_0xFC` (R124). -/
def execUnimpFC (s : State) : Host.Outcome State Fault Refusal := .next (unimplemented s)

/-- `UNIMP_0xFD` (R124). -/
def execUnimpFD (s : State) : Host.Outcome State Fault Refusal := .next (unimplemented s)

/-- `UNIMP_0xFE` (R124). -/
def execUnimpFE (s : State) : Host.Outcome State Fault Refusal := .next (unimplemented s)

end Sys2Proof.Machine
end

