-- ==== Sys2Proof/Machine/Fetch.lean ====
section
/-! DEFINITION. Fetching one instruction, byte by byte at `pc` (10_state.md R28, 40_engine.md R101 to R106). -/

namespace Sys2Proof.Machine

/-- The instruction at `pc`, and the state after all its bytes are read. The opcode byte selects the number of
operand reads (R70, R81), each a `Fetch8()` (R103), in the order of their addresses (R104). An out-of-bounds
read gives 0x00 and halts, and the fetch goes on (R105); an out-of-bounds opcode is NOP (R106). -/
def fetchInstr (s : State) : Instr × State :=
  let op := fetch8 s
  match opcodeRow op.1 with
  | .f1 i => (i, op.2)
  | .fmov i => (i, op.2)
  | .fi8 =>
    let v := fetch8 op.2
    (.ldi v.1, v.2)
  | .fa16 =>
    let lo := fetch8 op.2
    let hi := fetch8 lo.2
    (.sta lo.1 hi.1, hi.2)

/-- Stores bytes where the next fetches read, as far as the addresses exist. -/
def placeAt (p : Params) (pc : Nat) (m : Memory) : List Byte → Memory
  | [] => m
  | v :: vs => placeAt p (pcAfter p pc) (if pc < p.memSize then m.write pc v else m) vs

end Sys2Proof.Machine
end

