-- ==== Sys2Proof/Machine/Step.lean ====
section
/-! DEFINITION. One step of the machine (40_engine.md R101), and the placing of an instruction for it. -/

namespace Sys2Proof.Machine

/-- One step, performed only when `halted = 0`: fetch the instruction, advance `pc`, run its handler (R100, R101). -/
def step (s : State) : Host.Outcome State Fault Refusal :=
  if s.halted then .fault .halted else exec (fetchInstr s).1 (fetchInstr s).2

/-- The state with an instruction's bytes stored at `pc`, where the next step fetches. It stands for the load of a
program from outside (log 16): at reset, `pc` is 0x0000, the address an image is injected at (R212, R272). -/
def State.withFetchWord (s : State) (nbits w : Nat) : State :=
  { s with mem := placeAt s.params s.pc s.mem (wordBytes nbits w) }

end Sys2Proof.Machine
end

