-- ==== Sys2Proof/Machine/Engine.lean ====
section
/-! DEFINITION. The engine in the spec's own words: the dispatch table built as 30_encoding.md R77 builds it, the
handlers, each reading its own operands, and `Step()` as 40_engine.md R101 writes it. `step` (Machine/Step.lean)
decodes first and then runs one arm per instruction; that the two agree is a statement about the model. -/

namespace Sys2Proof.Machine

/-- The handlers of the dispatch table (R77). All 215 unimplemented opcodes share one (R86). -/
inductive Handler where
  | unimplemented
  | noOp
  | loadImmediate
  | storeAbsolute
  | haltOnSyscall
  | moveGroup
  | aluGroup
deriving DecidableEq, Repr

/-- One installation: a handler, and the opcodes it is installed at. -/
structure Install where
  handler : Handler
  opcodes : Byte → Bool

/-- Steps 2, 3 and 4 of the construction, in the source's order (R77). -/
def installs : List Install :=
  [ { handler := .noOp, opcodes := fun op => op == 0x00#8 },
    { handler := .loadImmediate, opcodes := fun op => op == 0x43#8 },
    { handler := .storeAbsolute, opcodes := fun op => op == 0x04#8 },
    { handler := .haltOnSyscall, opcodes := fun op => op == 0xFF#8 },
    { handler := .moveGroup, opcodes := isMoveOpcode },
    { handler := .aluGroup, opcodes := fun op => op == 0x95#8 } ]

/-- One installation into a table: it replaces what stood at its opcodes. -/
def install (table : Byte → Handler) (i : Install) : Byte → Handler :=
  fun op => if i.opcodes op then i.handler else table op

/-- The table after step 1 and then a list of installations, first to last (R77). -/
def buildTable (l : List Install) : Byte → Handler := l.foldl install fun _ => .unimplemented

/-- The dispatch table, built once and immutable (R38, R77). -/
def dispatchTable : Byte → Handler := buildTable installs

/-- The move handler decodes both selectors of the opcode it is passed; an invalid one makes a no-op, which no
installed opcode reaches (R75, R140). -/
def moveHandler (op : Byte) (s : State) : State :=
  match selectorRole (highNibble op), selectorRole (lowNibble op) with
  | some src, some dst => move dst src s
  | _, _ => s

/-- A handler, passed the opcode value, after the opcode fetch. It reads its operands itself (R82, R102, R103). -/
def runHandler (h : Handler) (op : Byte) (s : State) : State :=
  match h with
  | .unimplemented => unimplemented s
  | .noOp => noOperation s
  | .loadImmediate =>
    let v := fetch8 s
    loadImmediate v.1 v.2
  | .storeAbsolute =>
    let lo := fetch8 s
    let hi := fetch8 lo.2
    storeAbsolute lo.1 hi.1 hi.2
  | .haltOnSyscall => haltOnSyscall s
  | .moveGroup => moveHandler op s
  | .aluGroup => increment s

/-- `Step()` (R101), for a RUNNING machine. -/
def engineStep (s : State) : State :=
  let op := fetch8 s
  runHandler (dispatchTable op.1) op.1 op.2

end Sys2Proof.Machine
end

