-- ==== Sys2Proof/Machine/Assembler.lean ====
section
/-! DEFINITION. The spec's assembler text as syntax (30_encoding.md R83, R84) and the total disassembly (R86). Here the
215 unimplemented opcodes have one constructor in common, as R86 asks of a decoder (log 13). -/

namespace Sys2Proof.Machine

/-- An operand name of `MOV`: one of B, C, H, L, A, M (R84). -/
inductive RoleName where
  | named (n : RegName)
  | M
deriving DecidableEq, Repr

/-- A line of assembler text (R83). There are no pseudo-instructions (R85). -/
inductive Asm where
  | nop
  | ldi (v : Byte)
  | sta (addr : Word16)
  | hlt
  | inc
  /-- `MOV d, s`, destination first (R84). -/
  | mov (d s : RoleName)
  /-- `UNIMP 0xNN`. -/
  | unimp (op : Byte)
  /-- `.byte v, ...`. DESIGN CHOICE (log 22): R83 does not say whether it may list no value; here it may. -/
  | bytes (vs : List Byte)
deriving DecidableEq, Repr

/-- `UNIMP` takes one of the 215 unimplemented values only (R83). -/
def Asm.wellFormed : Asm → Bool
  | .unimp op => isUnimplementedOpcode op
  | .nop | .ldi _ | .sta _ | .hlt | .inc | .mov _ _ | .bytes _ => true

/-- The role a name stands for (R84). -/
def namedRole (t : RoleTable) : RoleName → Role
  | .named n => .reg (namedReg t n)
  | .M => .m

/-- The name a role has under a one-to-one table (R23). -/
def roleName (t : RoleTable) : Role → RoleName
  | .m => .M
  | .reg r =>
    if t.b = r then .named .B
    else if t.c = r then .named .C
    else if t.h = r then .named .H
    else if t.l = r then .named .L
    else .named .A

/-- `opcode = ((role(s) + 0xA) << 4) | role(d)` (R84). -/
def moveOpcode (d s : Role) : Byte :=
  (BitVec.ofNat 8 (roleIndex s + 0xA) <<< 4) ||| BitVec.ofNat 8 (roleIndex d)

/-- The bytes of a line (R83, R84). -/
def assemble (t : RoleTable) : Asm → List Byte
  | .nop => [0x00#8]
  | .ldi v => [0x43#8, v]
  | .sta addr => [0x04#8, addr.extractLsb' 0 8, addr.extractLsb' 8 8]
  | .hlt => [0xFF#8]
  | .inc => [0x95#8]
  | .mov d s => [moveOpcode (namedRole t d) (namedRole t s)]
  | .unimp op => [op]
  | .bytes vs => vs

/-- The line an opcode byte starts, by the dispatch table, with the operand bytes after it. Every byte
disassembles (R86); only operand bytes can be missing. -/
def disassemble (t : RoleTable) : List Byte → Option (Asm × List Byte)
  | [] => none
  | op :: rest =>
    match dispatchTable op with
    | .unimplemented => some (.unimp op, rest)
    | .noOp => some (.nop, rest)
    | .haltOnSyscall => some (.hlt, rest)
    | .aluGroup => some (.inc, rest)
    | .moveGroup =>
      match selectorRole (highNibble op), selectorRole (lowNibble op) with
      | some src, some dst => some (.mov (roleName t dst) (roleName t src), rest)
      | _, _ => none
    | .loadImmediate =>
      match rest with
      | v :: rest => some (.ldi v, rest)
      | [] => none
    | .storeAbsolute =>
      match rest with
      | lo :: hi :: rest => some (.sta (concat16 hi lo), rest)
      | _ => none

end Sys2Proof.Machine
end

