-- ==== Sys2Proof/Machine/AsmText.lean ====
section
/-! DEFINITION. Assembler source lines: how numbers are written, and what labels stand for (30_encoding.md R83; log 22).
The image starts at address 0, as an injected one does (20_memory.md R58). -/

namespace Sys2Proof.Machine

/-- A number as written: `0x` and hexadecimal digits, or decimal digits, the most significant first (R83). DESIGN
CHOICE (log 22): R83 shows `0xNN` and decimal and says no more, and here a number has any count of digits, none
included. -/
inductive Numeral where
  | hex (digits : List (BitVec 4))
  | decimal (digits : List (Fin 10))
deriving DecidableEq, Repr

/-- The value of a number (R83). DESIGN CHOICE (log 22): leading zeros change nothing, and a number of no digits
is 0. -/
def Numeral.value : Numeral → Nat
  | .hex ds => ds.foldl (fun n d => n * 16 + d.toNat) 0
  | .decimal ds => ds.foldl (fun n d => n * 10 + d.val) 0

/-- The operand of `STA`: a number, or a label (R83). -/
inductive AddrText where
  | number (n : Numeral)
  | label (name : String)
deriving DecidableEq, Repr

/-- A source line: one of R83's spellings, or a label on the byte that follows. -/
inductive SourceLine where
  | label (name : String)
  | nop
  | ldi (v : Numeral)
  | sta (addr : AddrText)
  | hlt
  | inc
  | mov (d s : RoleName)
  | unimp (op : Numeral)
  /-- `.byte v, ...` (R83). DESIGN CHOICE (log 22): it may list no value, and is then no byte. -/
  | bytes (vs : List Numeral)
deriving DecidableEq, Repr

/-- The number of bytes a line takes; a label takes none (R70, R83). -/
def SourceLine.size : SourceLine → Nat
  | .label _ => 0
  | .ldi _ => 2
  | .sta _ => 3
  | .bytes vs => vs.length
  | .nop | .hlt | .inc | .mov _ _ | .unimp _ => 1

/-- The number of bytes a source takes. -/
def sourceSize (ls : List SourceLine) : Nat := (ls.map SourceLine.size).sum

/-- The labels of a source, each with the address of the byte that follows it, from address `a` on (R83). DESIGN CHOICE
(log 22): a label with no byte after it, or past 0xFFFF, where R83 gives no 16-bit address, still has its plain offset
here. -/
def labelsFrom (a : Nat) : List SourceLine → List (String × Nat)
  | [] => []
  | .label name :: ls => (name, a) :: labelsFrom a ls
  | l :: ls => labelsFrom (a + l.size) ls

/-- The address a label stands for (R83). -/
def labelAddress (ls : List SourceLine) (name : String) : Option Nat := (labelsFrom 0 ls).lookup name

/-- A number as an 8-bit value, if it is one. -/
def byteValue (n : Numeral) : Option Byte := if n.value < 256 then some (BitVec.ofNat 8 n.value) else none

/-- A number as a 16-bit value, if it is one. -/
def wordValue (n : Nat) : Option Word16 := if n < 65536 then some (BitVec.ofNat 16 n) else none

/-- The lines a source line stands for, given what the labels stand for: none for a label. A number out of range, a
label that no line sets, and `UNIMP` of an opcode that has a handler have no reading (R83). DESIGN CHOICE (log 22): a
label past 0xFFFF is refused only where an `STA` uses it, and a label stands only as `STA`'s operand. -/
def SourceLine.read (env : String → Option Nat) : SourceLine → Option (List Asm)
  | .label _ => some []
  | .nop => some [.nop]
  | .ldi v => (byteValue v).map fun v => [.ldi v]
  | .sta (.number n) => (wordValue n.value).map fun a => [.sta a]
  | .sta (.label name) => ((env name).bind wordValue).map fun a => [.sta a]
  | .hlt => some [.hlt]
  | .inc => some [.inc]
  | .mov d s => some [.mov d s]
  | .unimp v => (byteValue v).bind fun op => if isUnimplementedOpcode op then some [.unimp op] else none
  | .bytes vs => (vs.mapM byteValue).map fun vs => [.bytes vs]

/-- The lines of a source read in order. -/
def readLines (env : String → Option Nat) : List SourceLine → Option (List Asm)
  | [] => some []
  | l :: ls =>
    match l.read env, readLines env ls with
    | some a, some as => some (a ++ as)
    | _, _ => none

/-- The bytes of a source. A label set twice has no reading (log 22). -/
def assembleSource (t : RoleTable) (ls : List SourceLine) : Option (List Byte) :=
  if ((labelsFrom 0 ls).map Prod.fst).Nodup then
    (readLines (labelAddress ls) ls).map fun as => as.flatMap (assemble t)
  else none

end Sys2Proof.Machine
end

