-- ==== Sys2Proof/Machine/Ingest.lean ====
section
/-! DEFINITION. The ingestion harness (44_ingestion_harness.md R200 to R213): a received byte sequence becomes a payload
or a fatal outcome. The staging region is a list of bytes local to one call; no instruction can reach it (R218). -/

namespace Sys2Proof.Machine

/-- What `Ingest` returns (R200). -/
inductive Ingested where
  /-- `Payload(q)`: the bytes to load. -/
  | payload (q : List Byte)
  /-- `Fatal(g)`: the corrupted guard content. -/
  | fatal (g : List Byte)
deriving DecidableEq, Repr

/-- A new staging region of `n` bytes with the given contents, which the spec leaves unspecified (R205). -/
def newRegion (init : Nat → Byte) (n : Nat) : List Byte := (List.range n).map init

/-- Copies bytes into a region from offset `k` on, one at a time (R202, R205, R206). -/
def copyInto (region : List Byte) (k : Nat) : List Byte → List Byte
  | [] => region
  | v :: vs => copyInto (region.set k v) (k + 1) vs

/-- `Ingest_bounded`: at most `STAGE_CAP` bytes reach the staging region, and exactly the copied length is handed
on (R202). -/
def ingestBounded (init : Nat → Byte) (p : List Byte) : List Byte :=
  let n := min p.length Config.stageCap
  (copyInto (newRegion init Config.stageCap) 0 (p.take n)).take n

/-- What the unbounded receive takes of a datagram (R203). -/
def received (p : List Byte) : List Byte := p.take Config.recvRequest

/-- The region `U` after the guard is set and the bytes are copied over it, with no test against `SAFE_CAP`
(R204, R205, R206). -/
def unboundedRegion (init : Nat → Byte) (guard p : List Byte) : List Byte :=
  copyInto (copyInto (newRegion init Config.unsafeRegionSize) Config.safeCap guard) 0 (received p)

/-- The guard's content in a region: `U[64 .. 64+GW-1]` (R207). -/
def guardContent (guard region : List Byte) : List Byte := (region.drop Config.safeCap).take guard.length

/-- `Ingest(p)` over a staging region of given initial contents. The guard is compared byte by byte, right after
the copy; a failure is reported and returned, and nothing reaches the machine (R207 to R211). -/
def ingestWith (init : Nat → Byte) (p : List Byte) (s : State) : Ingested × State :=
  match s.params.ingestMode with
  | .bounded => (.payload (ingestBounded init p), s)
  | .unbounded =>
    let region := unboundedRegion init s.params.guardBytes p
    let g := guardContent s.params.guardBytes region
    if s.params.guardEnabled && g != s.params.guardBytes then (.fatal g, report (.guardFail g) s)
    else (.payload (region.take (received p).length), s)

/-- `Ingest(p)` (R200). The initial contents of the staging region are a free value (log 12). -/
def ingest (p : List Byte) (s : State) : Ingested × State := ingestWith Config.stagingByte p s

/-- `Inject(q)`: a direct write from address 0 on, with no bounds check and no report (R212). -/
def inject (q : List Byte) (s : State) : State := { s with mem := s.mem.load 0 q }

end Sys2Proof.Machine
end

