-- ==== Sys2Proof/Machine/Run.lean ====
section
/-! DEFINITION. The run loop and the cycle budget (40_engine.md R107 to R112). -/

namespace Sys2Proof.Machine

/-- How a run call ends (R107). -/
inductive RunOutcome where
  | halted
  | budgetExhausted
deriving DecidableEq, Repr

/-- What a run call returns, with the state it leaves (R107). -/
structure RunResult where
  outcome : RunOutcome
  cycles : Nat
  state : State
deriving DecidableEq, Repr

/-- The run outcome that R241 numbers: budget exhaustion is code 4. -/
def RunOutcome.code : RunOutcome → Option Nat
  | .halted => none
  | .budgetExhausted => some 4

/-- The state one step leaves: itself where no step is taken. -/
def stepState (s : State) : State :=
  match step s with
  | .next t => t
  | .fault _ => s
  | .refused _ => s

/-- One cycle more (R107, R108). -/
def RunResult.addCycle (r : RunResult) : RunResult := { r with cycles := r.cycles + 1 }

/-- `Run(n)`: `halted` is tested before the budget (R107, R251); `cycles` starts at zero in every call. -/
def run : Nat → State → RunResult
  | 0, s => { outcome := if s.halted then .halted else .budgetExhausted, cycles := 0, state := s }
  | n + 1, s =>
    if s.halted then { outcome := .halted, cycles := 0, state := s }
    else (run n (stepState s)).addCycle

end Sys2Proof.Machine
end

