-- ==== Sys2Proof/Machine/Driver.lean ====
section
/-! DEFINITION. The two drivers and the process around the machine (44_ingestion_harness.md R214 to R217,
70_reset_and_hazards.md R271, R274). -/

namespace Sys2Proof.Machine

/-- How the process ended. A guard failure's status differs from a normal exit; its number is open (R217; log 11). -/
inductive ExitStatus where
  | normal
  | distinguished (code : Nat)
deriving DecidableEq, Repr

/-- `EXIT_GUARD` (R8, R217, D18). -/
def exitGuard : ExitStatus := .distinguished Config.exitGuardCode

/-- The process: the one Machine State instance with its trace and configuration, and the end of the process, if
it has ended (R40, R217, R258). -/
structure Process where
  machine : State
  exit : Option ExitStatus
deriving DecidableEq, Repr

/-- The process as constructed: the construction state is the reset state (R40), the trace is empty. -/
def Process.start (p : Params) : Process := { machine := { State.reset with params := p }, exit := none }

/-- Reset, inject, run: the fixed order for every program (R215, R216, R274). -/
def runProgram (budget : Nat) (q : List Byte) (s : State) : RunResult := run budget (inject q (resetMachine s))

/-- One turn of `ListenLoop()`, with what `receive()` returned. An empty result does nothing (R214); a guard
failure ends the process before the machine sees the packet (R246); after the end nothing happens (R217). -/
def receivePacket (budget : Nat) (p : List Byte) (pr : Process) : Process :=
  match pr.exit with
  | some _ => pr
  | none =>
    if p.isEmpty then pr
    else
      match ingest p pr.machine with
      | (.fatal _, s) => { machine := s, exit := some exitGuard }
      | (.payload q, s) => { machine := (runProgram budget q s).state, exit := none }

/-- `ListenLoop()` over the successive results of `receive()`, strictly one at a time (R215; log 17). -/
def listenLoop (budget : Nat) : List (List Byte) → Process → Process
  | [], pr => pr
  | p :: ps, pr => listenLoop budget ps (receivePacket budget p pr)

/-- The fixed program of the self-test (R216). -/
def selfTestProgram : List Byte := [0x43#8, 0x02#8, 0xFF#8]

/-- The run of `SelfTest()`; it does not go through `Ingest` (R216). -/
def selfTestRun (budget : Nat) (s : State) : RunResult := runProgram budget selfTestProgram s

/-- `SelfTest()`: the run, then the process ends normally (R216). DESIGN CHOICE (log 24): the spec never puts one
entry mode after another; on a process that has already ended, nothing happens and its status stays. -/
def selfTest (budget : Nat) (pr : Process) : Process :=
  match pr.exit with
  | some _ => pr
  | none => { machine := (selfTestRun budget pr.machine).state, exit := some .normal }

end Sys2Proof.Machine
end

