-- ==== Sys2Proof/Safety.lean ====
section
/-! DEFINITION. What the claims are stated in: the invariant of the machine, the source's parameters, and which parts of
two states agree. -/

namespace Sys2Proof.Machine

/-- Memory keeps its canonical form and holds no byte at or above `MEM_SIZE` (R21). -/
abbrev MemOk (s : State) : Prop := s.mem.wf ∧ s.mem.within s.params.memSize

/-- Under `wrap16` the program counter is a 16-bit value (R20, R31). -/
abbrev PcOk (s : State) : Prop := s.params.pcOverflow = .wrap16 → s.pc < 65536

/-- Bits 5 to 0 of `flags` are zero (R33). -/
abbrev FlagsOk (s : State) : Prop := s.flags &&& 0x3F#8 = 0x00#8

/-- `sp` is zero (R32). -/
abbrev SpOk (s : State) : Prop := s.sp = 0x0000#16

/-- The machine's invariant. -/
abbrev MachineInv (s : State) : Prop := MemOk s ∧ PcOk s ∧ FlagsOk s ∧ SpOk s

/-- The source's memory size and the 16-bit program counter that wraps: no access can be out of bounds (R30, R53). -/
abbrev SourceParams (p : Params) : Prop := p.memSize = 65536 ∧ p.pcOverflow = .wrap16

/-- An out-of-bounds report (R243). -/
def Event.isOutOfBounds : Event → Bool
  | .oobRead _ => true
  | .oobWrite _ _ => true
  | .syscall _ => false
  | .guardFail _ => false

/-- The opcode byte the next step dispatches: the byte at `pc`, or the placeholder 0x00 where it is out of
bounds (R101, R106). -/
def nextOpcode (s : State) : Byte := (fetch8 s).1

/-- The `n` bytes at `pc` and after it in the instruction stream, as memory holds them (R28, R31). -/
def codeBytes (s : State) (n : Nat) : List Byte := (List.range n).map fun k => s.mem.read (pcPlus s.params s.pc k)

/-- The byte an operand read at `a` gives: the byte of memory, or the placeholder 0x00 out of bounds (R51, R105). -/
def operandAt (s : State) (a : Nat) : Byte := if a < s.params.memSize then s.mem.read a else 0x00#8

/-- What reading at `a` reports: nothing, or the out-of-bounds read (R51). -/
def readReports (s : State) (a : Nat) : List Event := if a < s.params.memSize then [] else [.oobRead a]

/-- What writing `v` at `a` reports: nothing, or the out-of-bounds write (R52). -/
def writeReports (s : State) (a : Nat) (v : Byte) : List Event :=
  if a < s.params.memSize then [] else [.oobWrite a v]

/-- Neither `pc`, `sp`, `flags` nor the configuration differs. -/
abbrev SameControl (s t : State) : Prop :=
  t.pc = s.pc ∧ t.sp = s.sp ∧ t.flags = s.flags ∧ t.params = s.params

/-- The events `es` were appended to the trace, and `halted` was set if there are any (R243, R244). -/
abbrev Reports (es : List Event) (s t : State) : Prop :=
  t.trace = s.trace ++ es ∧ t.halted = (s.halted || !es.isEmpty)

/-- Every register is the same but those of the roles listed. -/
abbrev SameRegsBut (rs : List Reg) (s t : State) : Prop := ∀ r, r ∉ rs → readReg r t = readReg r s

/-- Every byte of memory is the same but those at the addresses listed. -/
abbrev SameMemBut (as : List Nat) (s t : State) : Prop := ∀ a, a ∉ as → t.mem.read a = s.mem.read a

/-- `t` is `s` with `v` stored at `a`, as far as memory goes: one byte in bounds, none out of bounds (R52). -/
abbrev StoredAt (a : Nat) (v : Byte) (s t : State) : Prop :=
  if a < s.params.memSize then t.mem.read a = v ∧ SameMemBut [a] s t else SameMemBut [] s t

/-- Z and N are those of `v`, and bits 5 to 0 of `flags` are as they were (R34). -/
abbrev FlagsOf (v : Byte) (s t : State) : Prop :=
  flagZ t = (v == 0x00#8) ∧ flagN t = v.getLsbD 7 ∧ t.flags &&& 0x3F#8 = s.flags &&& 0x3F#8

/-- What a move from `src` to `dst` makes of a state, form by form, in and out of bounds, with its frame. The
address of M is the pointer pair of the state before (42_move.md R140, R141, R143). -/
def MoveResult (src dst : Role) (s t : State) : Prop :=
  let a := (pairValue s).toNat
  SameControl s t ∧
  match src, dst with
  | .reg r, .reg d =>
    readReg d t = readReg r s ∧ SameRegsBut [d] s t ∧ SameMemBut [] s t ∧ Reports [] s t
  | .m, .reg d =>
    readReg d t = operandAt s a ∧ SameRegsBut [d] s t ∧ SameMemBut [] s t ∧ Reports (readReports s a) s t
  | .reg r, .m =>
    SameRegsBut [] s t ∧ StoredAt a (readReg r s) s t ∧ Reports (writeReports s a (readReg r s)) s t
  | .m, .m =>
    SameRegsBut [] s t ∧ SameMemBut [] s t ∧
      Reports (readReports s a ++ writeReports s a (operandAt s a)) s t

/-- The instruction is the one-byte opcode `op`, and in every state it completes as the move from `src` to `dst`. -/
def IsMove (i : Instr) (op : Byte) (src dst : Role) : Prop :=
  encode i = [op] ∧ ∀ s, ∃ t, exec i s = .next t ∧ MoveResult src dst s t

/-- The two states are the same but for the report trace. -/
abbrev SameButTrace (s t : State) : Prop := { t with trace := s.trace } = s

end Sys2Proof.Machine
end

