-- ==== Sys2Proof/Certificates/Slice0/Obligations.lean ====
section
/-! DEFINITION. The statements about the model, for the provers. Each docstring names the rule of spec/ it rests on. -/

open Sys2Proof Sys2Proof.Machine

/-! ## Encoding -/

/-- Decoding an instruction's encoding gives the instruction back, with every operand at every value, and the
bytes after it (30_encoding.md R70 to R74). -/
def Obligations.DecodeOfEncodeIsTheInstruction : Prop :=
  ∀ (i : Instr) (rest : List Byte), i.wellFormed = true → decode (encode i ++ rest) = .ok (i, rest)

/-- Bytes that decode are the encoding of what they decode to: each byte sequence has one meaning (R70, R76, R81). -/
def Obligations.DecodedBytesAreTheEncoding : Prop :=
  ∀ (bs rest : List Byte) (i : Instr), decode bs = .ok (i, rest) → bs = encode i ++ rest

/-- Decoding fails only where the bytes end before the instruction does, whatever their values (R70, R79, R80). -/
def Obligations.DecodeFailsOnlyForMissingBytes : Prop :=
  ∀ bs : List Byte, (∃ e, decode bs = .error e) ↔
    bs = [] ∨ ∃ op rest, bs = op :: rest ∧ bs.length < (opcodeRow op).length

/-- Words written out bit by bit from the encodings decode to the instructions they stand for (R71 to R74, R76, R84). -/
def Obligations.WrittenWordsDecode : Prop :=
  decode [0b00000000#8] = .ok (.nop, []) ∧
  decode [0b01000011#8, 0b10000000#8] = .ok (.ldi 0x80#8, []) ∧
  decode [0b00000100#8, 0b00110100#8, 0b00010010#8] = .ok (.sta 0x34#8 0x12#8, []) ∧
  decode [0b11111111#8] = .ok (.hlt, []) ∧
  decode [0b10010101#8] = .ok (.inc, []) ∧
  decode [0b11110100#8] = .ok (.movAM, []) ∧
  decode [0b11100101#8] = .ok (.movMA, []) ∧
  decode [0b11100010#8] = .ok (.movHA, []) ∧
  decode [0b10010110#8] = .ok (.unimp96, [])

/-- The installations of the dispatch table are pairwise disjoint, and applied in any order they build the same
table (R78).
R78 is the spec's own inference from R77. -/
def Obligations.InstallOrderDoesNotChangeTheTable : Prop :=
  (installs.Pairwise fun i j => ∀ op, ¬ (i.opcodes op = true ∧ j.opcodes op = true)) ∧
  (∀ op ∈ [0x00#8, 0x04#8, 0x43#8], (highNibble op).toNat < 0xA) ∧
  (highNibble 0xFF#8 = 0xF#4 ∧ 0x5 < (lowNibble 0xFF#8).toNat ∧ highNibble 0x95#8 = 0x9#4) ∧
  ∀ l : List Install, l.Perm installs → buildTable l = dispatchTable

/-- A line that disassembles from bytes is well-formed and assembles back to those bytes, under every one-to-one
ROLE_TABLE; and disassembly answers, under every table, except where no byte is left or an operand byte of LDI or STA
is missing (R83, R84, R86).
The text form is the spec's decision D12 (log 22). -/
def Obligations.DisassemblyAssemblesBack : Prop :=
  (∀ (t : RoleTable) (bs rest : List Byte) (a : Asm), t.wellFormed = true →
    disassemble t bs = some (a, rest) → a.wellFormed = true ∧ assemble t a ++ rest = bs) ∧
  ∀ (t : RoleTable) (bs : List Byte), disassemble t bs = none ↔
    bs = [] ∨ bs = [0x43#8] ∨ bs = [0x04#8] ∨ ∃ lo, bs = [0x04#8, lo]

/-- `MOV d, s`, assembled under any ROLE_TABLE, decodes to an instruction that moves the role of `s` into the role
of `d` (R84, R140).
The text form is the spec's decision D12 (log 22); the flags, the order of the accesses and going on after an
out-of-bounds one are decisions D23, D24, D7 (log 20, 8). -/
def Obligations.MoveLineRunsItsMove : Prop :=
  ∀ (t : RoleTable) (d s : RoleName) (rest : List Byte), ∃ i, ∃ op,
    op = (BitVec.ofNat 8 (roleIndex (namedRole t s) + 0xA) <<< 4) ||| BitVec.ofNat 8 (roleIndex (namedRole t d)) ∧
    assemble t (.mov d s) = [op] ∧ decode (op :: rest) = .ok (i, rest) ∧
    IsMove i op (namedRole t s) (namedRole t d)

/-- In a source whose lines before it do not set it, a label stands for the address of the byte that follows it; and an
assembled source has the size its lines take (R83). The text form is the spec's decision D12; that a label with no byte
after it, or past 0xFFFF, has its plain offset is the model's choice (log 22). -/
def Obligations.LabelStandsForTheNextByte : Prop :=
  (∀ (pre post : List SourceLine) (name : String), name ∉ (labelsFrom 0 pre).map Prod.fst →
    labelAddress (pre ++ .label name :: post) name = some (sourceSize pre)) ∧
  ∀ (t : RoleTable) (ls : List SourceLine) (bs : List Byte), assembleSource t ls = some bs →
    bs.length = sourceSize ls

/-! ## The primitives -/

/-- `SetFlags(v)` writes Z and N, each to 1 or to 0, and leaves the other six bits and the rest of the state (R34). -/
def Obligations.SetFlagsWritesZAndNOnly : Prop :=
  ∀ (v : Byte) (s : State), FlagsOf v s (setFlags v s) ∧ setFlags v s = { s with flags := (setFlags v s).flags }

/-- `MemRead`: in bounds the byte, and nothing changes; out of bounds 0x00, `halted` set and the report made, and
no memory byte and no register changes (R51). -/
def Obligations.MemReadIsBoundsChecked : Prop :=
  ∀ (a : Nat) (s : State),
    (a < s.params.memSize → memRead a s = (s.mem.read a, s)) ∧
    (s.params.memSize ≤ a → (memRead a s).1 = 0x00#8 ∧
      (memRead a s).2 = { s with halted := true, trace := s.trace ++ [.oobRead a] })

/-- `MemWrite`: in bounds that one byte changes, whether or not the machine is halted; out of bounds no byte
changes, `halted` is set and the report made (R52). -/
def Obligations.MemWriteIsBoundsChecked : Prop :=
  ∀ (a : Nat) (v : Byte) (s : State),
    StoredAt a v s (memWrite a v s) ∧ Reports (writeReports s a v) s (memWrite a v s) ∧
    SameRegsBut [] s (memWrite a v s) ∧ SameControl s (memWrite a v s)

/-- `PairValue()` has H in the upper byte and L in the lower (R25). -/
def Obligations.PairValueIsHighThenLow : Prop :=
  ∀ s : State, (pairValue s).toNat =
    (readReg s.params.roleTable.h s).toNat * 256 + (readReg s.params.roleTable.l s).toNat

/-- `Fetch8()` gives the byte at `pc` and advances `pc` by one, modulo 65536 under `wrap16` and without wrapping
under `linear`; at or above MEM_SIZE it gives 0x00, halts and still advances (R31, R103).
What follows 0xFFFF is the spec's decision D4 (log 5). -/
def Obligations.FetchAdvancesPc : Prop :=
  ∀ s : State,
    (fetch8 s).1 = operandAt s s.pc ∧
    (s.params.pcOverflow = .wrap16 → (fetch8 s).2.pc = (s.pc + 1) % 65536) ∧
    (s.params.pcOverflow = .linear → (fetch8 s).2.pc = s.pc + 1) ∧
    Reports (readReports s s.pc) s (fetch8 s).2 ∧
    SameRegsBut [] s (fetch8 s).2 ∧ SameMemBut [] s (fetch8 s).2 ∧
    (fetch8 s).2.sp = s.sp ∧ (fetch8 s).2.flags = s.flags ∧ (fetch8 s).2.params = s.params

/-! ## Each instruction completes -/

/-- NOP (`nop`) and every one of the 215 unimplemented opcodes (every `unimp<NN>`) completes and changes nothing; `pc` has already moved past
the opcode (R120, R124, R247; C1). -/
def Obligations.NopAndUnimplementedChangeNothing : Prop :=
  ∀ (i : Instr) (s : State),
    i.opcode = 0x00#8 ∨
      (i.opcode ∉ [0x04#8, 0x43#8, 0x95#8, 0xFF#8] ∧
        ¬ (0xA ≤ (highNibble i.opcode).toNat ∧ (lowNibble i.opcode).toNat ≤ 0x5)) →
    exec i s = .next s

/-- LDI completes in every state: the accumulator is the immediate, Z and N are its, nothing else changes (R121). -/
def Obligations.LdiLoadsTheImmediate : Prop :=
  ∀ (v : Byte) (s : State), ∃ t, exec (.ldi v) s = .next t ∧
    readAcc t = v ∧ FlagsOf v s t ∧ SameRegsBut [s.params.roleTable.a] s t ∧ SameMemBut [] s t ∧
    Reports [] s t ∧ t.pc = s.pc ∧ t.sp = s.sp ∧ t.params = s.params

/-- STA completes in every state: in bounds the byte at `(hi << 8) | lo` becomes the accumulator's and no other
changes; out of bounds the write is discarded, reported and halts (R122, R52).
That the flags stay is the spec's decision D23 (log 20). -/
def Obligations.StaStoresTheAccumulator : Prop :=
  ∀ (lo hi : Byte) (s : State), addr16 lo hi = hi.toNat * 256 + lo.toNat ∧
    ∃ t, exec (.sta lo hi) s = .next t ∧
      StoredAt (addr16 lo hi) (readAcc s) s t ∧ Reports (writeReports s (addr16 lo hi) (readAcc s)) s t ∧
      SameRegsBut [] s t ∧ SameControl s t

/-- HLT completes in every state: it appends SYSCALL(A) and sets `halted`, and nothing else changes (R244).
That the flags stay is the spec's decision D23 (log 20), the form of the report D19 (log 14). -/
def Obligations.HltReportsAndHalts : Prop :=
  ∀ s : State, ∃ t, exec .hlt s = .next t ∧
    t.trace = s.trace ++ [.syscall (readAcc s)] ∧ t.halted = true ∧
    SameRegsBut [] s t ∧ SameMemBut [] s t ∧ SameControl s t

/-- INC completes in every state: the accumulator plus one modulo 256, Z and N of the new value, nothing else
changes (R190). -/
def Obligations.IncIncrementsModulo256 : Prop :=
  ∀ s : State, ∃ t, exec .inc s = .next t ∧
    (readAcc t).toNat = ((readAcc s).toNat + 1) % 256 ∧ FlagsOf (readAcc t) s t ∧
    SameRegsBut [s.params.roleTable.a] s t ∧ SameMemBut [] s t ∧
    Reports [] s t ∧ t.pc = s.pc ∧ t.sp = s.sp ∧ t.params = s.params

/-- Every instruction of the move group completes as the move its two selectors name: the source role from the
high nibble less 0xA, the destination role from the low nibble; neither is ever invalid (R75, R140).
The flags, the order of the accesses and going on after an out-of-bounds one are decisions D23, D24, D7 (log 20, 8). -/
def Obligations.MoveGroupFollowsItsSelectors : Prop :=
  ∀ i : Instr, isMoveOpcode i.opcode = true → ∃ src dst,
    roleOfIndex ((highNibble i.opcode).toNat - 0xA) = some src ∧ roleOfIndex (lowNibble i.opcode).toNat = some dst ∧
    selectorRole (highNibble i.opcode) = some src ∧ selectorRole (lowNibble i.opcode) = some dst ∧
    IsMove i i.opcode src dst

/-- The twelve moves from B and C, opcode by opcode (42_move.md R144 to R155).
The flags, the order of the accesses and going on after an out-of-bounds one are decisions D23, D24, D7 (log 20, 8). -/
def Obligations.MovesFromBAndC : Prop :=
  IsMove .movBB 0xA0#8 (.reg .r0) (.reg .r0) ∧ IsMove .movCB 0xA1#8 (.reg .r0) (.reg .r1) ∧
  IsMove .movHB 0xA2#8 (.reg .r0) (.reg .r2) ∧ IsMove .movLB 0xA3#8 (.reg .r0) (.reg .r3) ∧
  IsMove .movAB 0xA4#8 (.reg .r0) (.reg .r4) ∧ IsMove .movMB 0xA5#8 (.reg .r0) .m ∧
  IsMove .movBC 0xB0#8 (.reg .r1) (.reg .r0) ∧ IsMove .movCC 0xB1#8 (.reg .r1) (.reg .r1) ∧
  IsMove .movHC 0xB2#8 (.reg .r1) (.reg .r2) ∧ IsMove .movLC 0xB3#8 (.reg .r1) (.reg .r3) ∧
  IsMove .movAC 0xB4#8 (.reg .r1) (.reg .r4) ∧ IsMove .movMC 0xB5#8 (.reg .r1) .m

/-- The twelve moves from H and L, opcode by opcode (R156 to R167).
The flags, the order of the accesses and going on after an out-of-bounds one are decisions D23, D24, D7 (log 20, 8). -/
def Obligations.MovesFromHAndL : Prop :=
  IsMove .movBH 0xC0#8 (.reg .r2) (.reg .r0) ∧ IsMove .movCH 0xC1#8 (.reg .r2) (.reg .r1) ∧
  IsMove .movHH 0xC2#8 (.reg .r2) (.reg .r2) ∧ IsMove .movLH 0xC3#8 (.reg .r2) (.reg .r3) ∧
  IsMove .movAH 0xC4#8 (.reg .r2) (.reg .r4) ∧ IsMove .movMH 0xC5#8 (.reg .r2) .m ∧
  IsMove .movBL 0xD0#8 (.reg .r3) (.reg .r0) ∧ IsMove .movCL 0xD1#8 (.reg .r3) (.reg .r1) ∧
  IsMove .movHL 0xD2#8 (.reg .r3) (.reg .r2) ∧ IsMove .movLL 0xD3#8 (.reg .r3) (.reg .r3) ∧
  IsMove .movAL 0xD4#8 (.reg .r3) (.reg .r4) ∧ IsMove .movML 0xD5#8 (.reg .r3) .m

/-- The twelve moves from A and M, opcode by opcode (R168 to R179).
The flags, the order of the accesses and going on after an out-of-bounds one are decisions D23, D24, D7 (log 20, 8). -/
def Obligations.MovesFromAAndM : Prop :=
  IsMove .movBA 0xE0#8 (.reg .r4) (.reg .r0) ∧ IsMove .movCA 0xE1#8 (.reg .r4) (.reg .r1) ∧
  IsMove .movHA 0xE2#8 (.reg .r4) (.reg .r2) ∧ IsMove .movLA 0xE3#8 (.reg .r4) (.reg .r3) ∧
  IsMove .movAA 0xE4#8 (.reg .r4) (.reg .r4) ∧ IsMove .movMA 0xE5#8 (.reg .r4) .m ∧
  IsMove .movBM 0xF0#8 .m (.reg .r0) ∧ IsMove .movCM 0xF1#8 .m (.reg .r1) ∧
  IsMove .movHM 0xF2#8 .m (.reg .r2) ∧ IsMove .movLM 0xF3#8 .m (.reg .r3) ∧
  IsMove .movAM 0xF4#8 .m (.reg .r4) ∧ IsMove .movMM 0xF5#8 .m .m

/-! ## One step -/

/-- Where the bytes at `pc` decode to an instruction, and they exist, the step is that instruction run on the state
whose `pc` is past them (R28, R101, R103).
That decoding precedes execution is the model's (log 15), the wrap of `pc` the spec's decision D4 (log 5). -/
def Obligations.StepRunsTheDecodedInstruction : Prop :=
  ∀ (s : State) (i : Instr) (rest : List Byte), s.halted = false →
    decode (codeBytes s 3) = .ok (i, rest) →
    (∀ k < (encode i).length, pcPlus s.params s.pc k < s.params.memSize) →
    step s = exec i { s with pc := pcPlus s.params s.pc (encode i).length }

/-- The step is `Step()` as R101 writes it, over the dispatch table of R77: the opcode byte is fetched, `pc`
advanced, and the table's handler run with the opcode value. -/
def Obligations.StepIsTheEngineStep : Prop :=
  ∀ s : State, s.halted = false → step s = .next (engineStep s)

/-- A RUNNING machine always takes its step, out of bounds too, and `pc` is then past the instruction whose length
the opcode byte fixes; a HALTED one takes none (R100, R113, R248).
The fault is the model's (log 3); the rest follows decisions D4, D7, D8 (log 5, 8). -/
def Obligations.RunningStepsAndHaltedDoesNot : Prop :=
  ∀ s : State,
    (s.halted = true → step s = .fault .halted) ∧
    (s.halted = false → ∃ t, step s = .next t ∧
      t.pc = pcPlus s.params s.pc (opcodeRow (operandAt s s.pc)).length)

/-- A step at NOP's opcode, or at an unimplemented one, advances `pc` by one and changes nothing else (R120, R124). -/
def Obligations.NopAndUnimplementedStep : Prop :=
  ∀ s : State, s.halted = false → s.pc < s.params.memSize →
    s.mem.read s.pc = 0x00#8 ∨ isUnimplementedOpcode (s.mem.read s.pc) = true →
    step s = .next { s with pc := pcPlus s.params s.pc 1 }

/-- A step whose opcode fetch is out of bounds reports it, halts, and advances `pc`: it is NOP's step, and changes
nothing else (R103, R106). That NOP is dispatched is the spec's decision D8 (log 8). -/
def Obligations.OutOfBoundsFetchIsNop : Prop :=
  ∀ s : State, s.halted = false → s.params.memSize ≤ s.pc →
    step s = .next { s with
      pc := pcPlus s.params s.pc 1, halted := true, trace := s.trace ++ [.oobRead s.pc] }

/-- A step at opcode 0x43 is LDI of the byte after it, the placeholder 0x00 where that byte does not exist (R121).
Going on after an out-of-bounds read is the spec's decision D7 (log 8). -/
def Obligations.LdiStep : Prop :=
  ∀ s : State, s.halted = false → s.pc < s.params.memSize → s.mem.read s.pc = 0x43#8 →
    let v := operandAt s (pcPlus s.params s.pc 1)
    ∃ t, step s = .next t ∧ readAcc t = v ∧ FlagsOf v s t ∧
      SameRegsBut [s.params.roleTable.a] s t ∧ SameMemBut [] s t ∧
      Reports (readReports s (pcPlus s.params s.pc 1)) s t ∧
      t.pc = pcPlus s.params s.pc 2 ∧ t.sp = s.sp ∧ t.params = s.params

/-- A step at opcode 0x04 is STA to the address of the two bytes after it, low byte first, each the placeholder
0x00 where it does not exist (R122).
Going on after an out-of-bounds read is the spec's decision D7 (log 8), the flags D23 (log 20). -/
def Obligations.StaStep : Prop :=
  ∀ s : State, s.halted = false → s.pc < s.params.memSize → s.mem.read s.pc = 0x04#8 →
    let p1 := pcPlus s.params s.pc 1
    let p2 := pcPlus s.params s.pc 2
    let a := addr16 (operandAt s p1) (operandAt s p2)
    ∃ t, step s = .next t ∧ StoredAt a (readAcc s) s t ∧
      SameRegsBut [] s t ∧ t.flags = s.flags ∧
      Reports (readReports s p1 ++ readReports s p2 ++ writeReports s a (readAcc s)) s t ∧
      t.pc = pcPlus s.params s.pc 3 ∧ t.sp = s.sp ∧ t.params = s.params

/-- A step at opcode 0xFF reports the accumulator as the call identifier and halts, whatever it holds; registers,
memory and flags are unchanged and `pc` is past the byte (R123).
That the flags stay is the spec's decision D23 (log 20). -/
def Obligations.HltStep : Prop :=
  ∀ s : State, s.halted = false → s.pc < s.params.memSize → s.mem.read s.pc = 0xFF#8 →
    step s = .next { s with
      pc := pcPlus s.params s.pc 1, halted := true, trace := s.trace ++ [.syscall (readAcc s)] }

/-- A step at opcode 0x95 increments the accumulator modulo 256, sets Z and N from the new value, and changes
nothing else but `pc` (R190). -/
def Obligations.IncStep : Prop :=
  ∀ s : State, s.halted = false → s.pc < s.params.memSize → s.mem.read s.pc = 0x95#8 →
    ∃ t, step s = .next t ∧ (readAcc t).toNat = ((readAcc s).toNat + 1) % 256 ∧ FlagsOf (readAcc t) s t ∧
      SameRegsBut [s.params.roleTable.a] s t ∧ SameMemBut [] s t ∧ Reports [] s t ∧
      t.pc = pcPlus s.params s.pc 1 ∧ t.sp = s.sp ∧ t.params = s.params

/-! ## Every step -/

/-- Every step keeps the invariant: the memory's canonical form, its size, the 16-bit `pc` under `wrap16`, the zero
bits of `flags`, and `sp` (R20, R21, R31, R32, R33).
The canonical form is the model's (log 18), the wrap the decision D4 (log 5), the flag bits D5 (log 6). -/
def Obligations.StepKeepsTheInvariant : Prop :=
  ∀ s t : State, MachineInv s → step s = .next t → MachineInv t

/-- The reset state has the invariant (R39).
The canonical form is the model's (log 18). -/
def Obligations.ResetHasTheInvariant : Prop := MachineInv State.reset

/-- With the parameters in their ranges, what one step reports: at most two events, each an out-of-bounds access or
else the one SYSCALL of opcode 0xFF; and RUNNING becomes HALTED exactly when something is reported (R100, R241, R250).
Follows the spec's inference R250 and its decisions D7, D8, D19 (log 8, 14). -/
def Obligations.StepHaltsExactlyWhenItReports : Prop :=
  ∀ s t : State, s.params.wellFormed = true → step s = .next t → ∃ es,
    Reports es s t ∧ es.length ≤ 2 ∧
    ((∀ e ∈ es, e.isOutOfBounds = true) ∨ (nextOpcode s = 0xFF#8 ∧ es = [.syscall (readAcc s)]))

/-- Under the source's parameters a run call reports nothing, or the one SYSCALL that halts it: no access is ever out
of bounds (R30, R53).
R30 and R53 are the spec's own inferences, under its decision D4 (log 5). -/
def Obligations.SourceRunReportsOnlyItsHalt : Prop :=
  ∀ (n : Nat) (s : State), SourceParams s.params → s.pc < 65536 → s.halted = false →
    ((run n s).outcome = .budgetExhausted ∧ (run n s).state.trace = s.trace) ∨
    ((run n s).outcome = .halted ∧ ∃ id, (run n s).state.trace = s.trace ++ [.syscall id])

/-- No instruction reads or writes `sp`: a step commutes with changing it, and from a reset on it stays zero (R32).
That it stays zero is the spec's own inference in R32. -/
def Obligations.StackPointerIsUnused : Prop :=
  (∀ (s t : State) (w : Word16), step s = .next t → t.sp = s.sp ∧ step { s with sp := w } = .next { t with sp := w }) ∧
  (∀ s : State, (resetMachine s).sp = 0x0000#16) ∧
  ∀ (budget : Nat) (ps : List (List Byte)) (pr : Process), pr.machine.sp = 0x0000#16 →
    (listenLoop budget ps pr).machine.sp = 0x0000#16

/-- Nothing reads the flags: two states that differ only in `flags` step to states that differ at most in `flags`
(R33, R35). -/
def Obligations.FlagsAreNeverRead : Prop :=
  ∀ (s t : State) (f : Byte), step s = .next t →
    ∃ t', step { s with flags := f } = .next t' ∧ { t' with flags := t.flags } = t

/-- In a step `pc` moves past the instruction and nowhere else, the flags change only at LDI's or INC's opcode, and the
registers only as listed: A by LDI, INC and a move into it, any register by a move whose destination it is (R26, R28,
R35, R143).
What follows 0xFFFF is the decision D4 (log 5), that only LDI and INC write flags D23 (log 20). -/
def Obligations.RegistersAndFlagsChangeOnlyAsListed : Prop :=
  ∀ s t : State, step s = .next t →
    t.pc = pcPlus s.params s.pc (opcodeRow (nextOpcode s)).length ∧
    (t.flags ≠ s.flags → nextOpcode s = 0x43#8 ∨ nextOpcode s = 0x95#8) ∧
    ∀ r, readReg r t ≠ readReg r s →
      (r = s.params.roleTable.a ∧ (nextOpcode s = 0x43#8 ∨ nextOpcode s = 0x95#8)) ∨
      (isMoveOpcode (nextOpcode s) = true ∧ selectorRole (lowNibble (nextOpcode s)) = some (.reg r))

/-- A byte stored over the very next opcode is the opcode the next step dispatches: by STA, and by a move into M
(R62, R142, R276). -/
def Obligations.StoredByteIsTheNextOpcode : Prop :=
  ∀ (s : State) (i : Instr) (rest : List Byte), s.halted = false →
    decode (codeBytes s 3) = .ok (i, rest) →
    (∀ k ≤ (encode i).length, pcPlus s.params s.pc k < s.params.memSize) →
    (∀ lo hi, i = .sta lo hi → addr16 lo hi = pcPlus s.params s.pc 3 →
      ∃ t, step s = .next t ∧ nextOpcode t = readAcc s) ∧
    (∀ r, isMoveOpcode i.opcode = true → lowNibble i.opcode = 0x5#4 →
      selectorRole (highNibble i.opcode) = some (.reg r) → (pairValue s).toNat = pcPlus s.params s.pc 1 →
      ∃ t, step s = .next t ∧ nextOpcode t = readReg r s)

/-! ## The run loop -/

/-- A run call's outcome and count: at most the budget; HALTED exactly when `halted` is set, also on the budget's last
cycle; otherwise the whole budget was spent (R107, R245, R251).
Decision D9 (log 10). -/
def Obligations.RunOutcomeAndCycles : Prop :=
  ∀ (n : Nat) (s : State),
    (run n s).cycles ≤ n ∧
    ((run n s).outcome = .halted ↔ (run n s).state.halted = true) ∧
    ((run n s).outcome = .budgetExhausted ↔ (run n s).state.halted = false) ∧
    ((run n s).outcome = .budgetExhausted → (run n s).cycles = n)

/-- One cycle is one step: a run of one cycle more from a RUNNING state is its step and then the run from the state the
step leaves. A run to the budget and a second one is one longer run; the second adds nothing to a run that halted
(R107, R108, R110).
Decision D9 (log 10). -/
def Obligations.RunsCompose : Prop :=
  (∀ (n : Nat) (s t : State), s.halted = false → step s = .next t →
    run (n + 1) s = { run n t with cycles := (run n t).cycles + 1 }) ∧
  ∀ (m n : Nat) (s : State),
    run (m + n) s =
      if (run m s).outcome = .halted then run m s
      else { run n (run m s).state with cycles := (run m s).cycles + (run n (run m s).state).cycles }

/-- A run call on a HALTED machine performs no step; nor does one with budget 0; and after opcode 0xFF no further
instruction executes in the same run call (R109).
R109 is the spec's own inference from R107. -/
def Obligations.RunStopsAtHalt : Prop :=
  (∀ (n : Nat) (s : State), s.halted = true → run n s = { outcome := .halted, cycles := 0, state := s }) ∧
  (∀ s : State, s.halted = false → run 0 s = { outcome := .budgetExhausted, cycles := 0, state := s }) ∧
  ∀ (n : Nat) (s : State), s.halted = false → s.pc < s.params.memSize → s.mem.read s.pc = 0xFF#8 →
    (run (n + 1) s).outcome = .halted ∧ (run (n + 1) s).cycles = 1 ∧
      SameRegsBut [] s (run (n + 1) s).state ∧ SameMemBut [] s (run (n + 1) s).state

/-! ## Reset and injection -/

/-- The reset state: every field at the value of R39.
The default parameters in it are log 1's. -/
def Obligations.ResetStateIsAllZero : Prop :=
  (∀ a, State.reset.mem.read a = 0x00#8) ∧ (∀ r, readReg r State.reset = 0x00#8) ∧
  State.reset.pc = 0x0000 ∧ State.reset.sp = 0x0000#16 ∧ State.reset.flags = 0x00#8 ∧
  flagZ State.reset = false ∧ flagN State.reset = false ∧ State.reset.halted = false

/-- `Reset()` zeroes every field of the Machine State, from any state, and leaves the configuration and the host's
trace (R270). -/
def Obligations.ResetClearsTheMachineOnly : Prop :=
  ∀ s : State,
    (∀ a, (resetMachine s).mem.read a = 0x00#8) ∧ (∀ r, readReg r (resetMachine s) = 0x00#8) ∧
    (resetMachine s).pc = 0 ∧ (resetMachine s).sp = 0x0000#16 ∧ (resetMachine s).flags = 0x00#8 ∧
    (resetMachine s).halted = false ∧ (resetMachine s).params = s.params ∧ (resetMachine s).trace = s.trace

/-- After reset and injection byte `i` of the payload is at address `i`, every other byte is 0x00, `pc` is 0x0000 and
nothing is reported; the injected memory has its canonical form (R212).
Decision D11 (log 16); the canonical form is the model's (log 18). -/
def Obligations.InjectionLoadsAtZero : Prop :=
  ∀ (q : List Byte) (s : State),
    (∀ i, (inject q (resetMachine s)).mem.read i = q.getD i 0x00#8) ∧
    (inject q (resetMachine s)).mem.wf ∧
    inject q (resetMachine s) = { resetMachine s with mem := (inject q (resetMachine s)).mem } ∧
    (inject q (resetMachine s)).pc = 0

/-! ## The ingestion harness -/

/-- Bounded mode: the payload is the first 1024 bytes of the datagram, and nothing is reported (R202). -/
def Obligations.BoundedIngestTruncates : Prop :=
  ∀ (p : List Byte) (s : State), s.params.ingestMode = .bounded →
    ingest p s = (.payload (p.take 1024), s)

/-- Unbounded mode with the guard: byte `j` of the guard is then `p[64 + j]` if that byte was received, else its
initial value; if it differs anywhere the outcome is fatal and reported, otherwise the payload is the first 1024
bytes (R203 to R208, R211).
Decisions D14, D15, D16, D27 (log 9, 12, 23). -/
def Obligations.GuardedIngestComparesTheGuard : Prop :=
  ∀ (p : List Byte) (s : State), s.params.ingestMode = .unbounded → s.params.guardEnabled = true →
    s.params.guardOk = true →
    let g := (List.range s.params.guardBytes.length).map fun j =>
      if 64 + j < min p.length 1024 then p.getD (64 + j) 0x00#8 else s.params.guardBytes.getD j 0x00#8
    ingest p s =
      if g = s.params.guardBytes then (.payload (p.take 1024), s)
      else (.fatal g, { s with trace := s.trace ++ [.guardFail g] })

/-- Fatal exactly when some received byte over the guard differs from the guard byte it overwrote; so a payload of 64
bytes or fewer passes (R213).
R213 is the spec's own inference; decisions D14, D15 (log 12, 23). -/
def Obligations.FatalExactlyWhenTheGuardDiffers : Prop :=
  ∀ (p : List Byte) (s : State), s.params.ingestMode = .unbounded → s.params.guardEnabled = true →
    s.params.guardOk = true →
    ((∃ g, (ingest p s).1 = .fatal g) ↔
      ∃ j, j < s.params.guardBytes.length ∧ 64 + j < min p.length 1024 ∧
        p.getD (64 + j) 0x00#8 ≠ s.params.guardBytes.getD j 0x00#8) ∧
    (p.length ≤ 64 → ∀ g, (ingest p s).1 ≠ .fatal g)

/-- Without the guard, unbounded mode never fails: the payload is the first 1024 bytes, the bytes that overwrote the
guard included (R209, R211).
Decisions D14, D15, D27 (log 12, 23). -/
def Obligations.UnguardedIngestNeverFails : Prop :=
  ∀ (p : List Byte) (s : State), s.params.ingestMode = .unbounded → s.params.guardEnabled = false →
    ingest p s = (.payload (p.take 1024), s)

/-- In bounded mode GUARD_ENABLED has no effect and `Ingest` never returns `Fatal` (R210).
Decision D17 (log 23). -/
def Obligations.GuardHasNoEffectWhenBounded : Prop :=
  ∀ (p : List Byte) (s : State) (b : Bool), s.params.ingestMode = .bounded →
    (ingest p { s with params := { s.params with guardEnabled := b } }).1 = (ingest p s).1 ∧
    ∀ g, (ingest p s).1 ≠ .fatal g

/-- What a new staging region holds is never observed: `Ingest` gives the same result for any initial contents (R205).
The contents are a free value (log 12). -/
def Obligations.StagingContentsAreNeverObserved : Prop :=
  ∀ (init init' : Nat → Byte) (p : List Byte) (s : State), ingestWith init p s = ingestWith init' p s

/-! ## The drivers -/

/-- An empty `receive()` does nothing: no ingestion, no reset, no run (R214).
Decision D13 (log 17, 23). -/
def Obligations.EmptyReceiveDoesNothing : Prop :=
  ∀ (budget : Nat) (ps : List (List Byte)) (pr : Process), listenLoop budget ([] :: ps) pr = listenLoop budget ps pr

/-- A guard failure ends the process with EXIT_GUARD, which is no normal exit: the machine keeps its state but for the
report, no later packet is processed; and nothing else ends the listening process (R217, R246).
Decisions D18, D25 (log 11, 23). -/
def Obligations.OnlyGuardFailureEndsListening : Prop :=
  (∀ (budget : Nat) (p : List Byte) (ps : List (List Byte)) (pr : Process) (g : List Byte),
    pr.exit = none → p ≠ [] → (ingest p pr.machine).1 = .fatal g →
    listenLoop budget (p :: ps) pr =
      { machine := { pr.machine with trace := pr.machine.trace ++ [.guardFail g] }, exit := some exitGuard }) ∧
  exitGuard ≠ .normal ∧
  ∀ (budget : Nat) (ps : List (List Byte)) (pr : Process), pr.exit = none → (listenLoop budget ps pr).exit ≠ none →
    ∃ p ∈ ps, ∃ g, (ingest p pr.machine).1 = .fatal g

/-- A packet that passes is reset, injected and run, in that order, with the budget, whatever came before it (R215).
Decision D25 (log 23). -/
def Obligations.PassedPacketIsRunFromReset : Prop :=
  ∀ (budget : Nat) (p q : List Byte) (pr : Process), pr.exit = none → p ≠ [] →
    (ingest p pr.machine).1 = .payload q →
    receivePacket budget p pr =
      { machine := (run budget (inject q (resetMachine pr.machine))).state, exit := none }

/-- No run of a packet can see a previous packet's state: from any two machines of one configuration the same program
runs to the same outcome, count and state, and reports the same events (R215, R252).
Decision D25 (log 23). -/
def Obligations.RunsOfAProgramAreIsolated : Prop :=
  ∀ (budget : Nat) (q : List Byte) (s s' : State), s.params = s'.params →
    let r := runProgram budget q s
    let r' := runProgram budget q s'
    r.outcome = r'.outcome ∧ r.cycles = r'.cycles ∧ SameButTrace r.state r'.state ∧
    ∃ es, r.state.trace = s.trace ++ es ∧ r'.state.trace = s'.trace ++ es

/-- The drivers never change the configuration and only append to the trace (R38, R42, R270).
Decision D19; both are fields of State by the model's choice (log 1, 14). -/
def Obligations.DriversKeepConfigurationAndTrace : Prop :=
  ∀ (budget : Nat) (ps : List (List Byte)) (pr : Process),
    (listenLoop budget ps pr).machine.params = pr.machine.params ∧
    pr.machine.trace <+: (listenLoop budget ps pr).machine.trace ∧
    (selfTest budget pr).machine.params = pr.machine.params ∧
    pr.machine.trace <+: (selfTest budget pr).machine.trace

/-- From any process whose machine has the invariant, listening keeps it, for every memory size the spec allows
(R212, R215).
The canonical form is the model's (log 18). -/
def Obligations.ListeningKeepsTheInvariant : Prop :=
  ∀ (budget : Nat) (ps : List (List Byte)) (pr : Process), pr.machine.params.memSizeOk = true →
    MachineInv pr.machine → MachineInv (listenLoop budget ps pr).machine

/-- The self-test: with a budget of 2 or more it halts after 2 cycles with A = 2, Z and N clear, `pc` = 3 and the one
report SYSCALL(2), and the process ends normally (R216). On a process that has already ended it does nothing.
Decision D26 (log 23); what it does on an ended process is the model's choice (log 24). -/
def Obligations.SelfTestEndsAsStated : Prop :=
  ∀ (budget : Nat) (pr : Process), pr.machine.params.memSizeOk = true → 2 ≤ budget →
    let r := selfTestRun budget pr.machine
    r.outcome = .halted ∧ r.cycles = 2 ∧ readAcc r.state = 0x02#8 ∧ flagZ r.state = false ∧ flagN r.state = false ∧
    r.state.halted = true ∧ r.state.pc = 0x0003 ∧
    r.state.trace = pr.machine.trace ++ [.syscall 0x02#8] ∧
    (pr.exit = none → selfTest budget pr = { machine := r.state, exit := some .normal }) ∧
    (pr.exit ≠ none → selfTest budget pr = pr)
end

