-- ==== Sys2Proof/Laws/Memory.lean ====
section
/-! SUPPORT. Memory: read after write, and the canonical form that every operation keeps. -/

namespace Sys2Proof.Machine

@[simp] theorem Memory.read_nil (a : Nat) : Memory.read [] a = unwritten := rfl

@[simp] theorem Memory.read_cons (b : Nat) (v : Byte) (m : Memory) (a : Nat) :
    Memory.read ((b, v) :: m) a = if a = b then v else m.read a := rfl

/-! ## Erasing and inserting -/

theorem Memory.read_erase_same (m : Memory) (a : Nat) : (Memory.erase a m).read a = unwritten := by
  induction m with
  | nil => rfl
  | cons c m ih =>
    obtain ⟨b, v⟩ := c
    by_cases h : b = a
    · simpa [Memory.erase, h] using ih
    · simpa [Memory.erase, h, Ne.symm h] using ih

theorem Memory.read_erase_other {m : Memory} {a c : Nat} (h : c ≠ a) :
    (Memory.erase a m).read c = m.read c := by
  induction m with
  | nil => rfl
  | cons d m ih =>
    obtain ⟨b, v⟩ := d
    by_cases hb : b = a
    · simpa [Memory.erase, hb, h] using ih
    · by_cases hc : c = b
      · simp [Memory.erase, hc, hb]
      · simpa [Memory.erase, hb, hc] using ih

theorem Memory.not_mem_erase (m : Memory) (a : Nat) : ∀ c ∈ Memory.erase a m, c.1 ≠ a := by
  intro c hc
  simpa using (List.mem_filter.mp hc).2

theorem Memory.mem_of_mem_erase {m : Memory} {a : Nat} {c : Host.Cell} (h : c ∈ Memory.erase a m) : c ∈ m :=
  (List.mem_filter.mp h).1

theorem Memory.read_insert_same {m : Memory} {a : Nat} (v : Byte) (h : ∀ c ∈ m, c.1 ≠ a) :
    (Memory.insert a v m).read a = v := by
  induction m with
  | nil => simp [Memory.insert]
  | cons d m ih =>
    obtain ⟨b, w⟩ := d
    have hb : a ≠ b := fun e => h (b, w) (by simp) e.symm
    unfold Memory.insert
    split
    · simp
    · simpa [hb] using ih fun c hc => h c (by simp [hc])

theorem Memory.read_insert_other {m : Memory} {a c : Nat} (v : Byte) (h : c ≠ a) :
    (Memory.insert a v m).read c = m.read c := by
  induction m with
  | nil => simp [Memory.insert, h]
  | cons d m ih =>
    obtain ⟨b, w⟩ := d
    unfold Memory.insert
    split
    · simp [h]
    · simp [ih]

theorem Memory.mem_insert {m : Memory} {a : Nat} {v : Byte} {c : Host.Cell} (h : c ∈ Memory.insert a v m) :
    c = (a, v) ∨ c ∈ m := by
  induction m with
  | nil => simpa [Memory.insert] using h
  | cons d m ih =>
    obtain ⟨b, w⟩ := d
    unfold Memory.insert at h
    split at h
    · simpa using h
    · rcases List.mem_cons.mp h with rfl | h
      · simp
      · rcases ih h with h | h <;> simp [h]

theorem Memory.rising_insert {m : Memory} {a : Nat} (v : Byte) (hm : m.Pairwise fun c d => c.1 < d.1)
    (ha : ∀ c ∈ m, c.1 ≠ a) : (Memory.insert a v m).Pairwise fun c d => c.1 < d.1 := by
  induction m with
  | nil => simp [Memory.insert]
  | cons d m ih =>
    obtain ⟨b, w⟩ := d
    obtain ⟨hb, hm⟩ := List.pairwise_cons.mp hm
    unfold Memory.insert
    split
    case isTrue hab =>
      refine List.pairwise_cons.mpr ⟨fun c hc => ?_, List.pairwise_cons.mpr ⟨hb, hm⟩⟩
      rcases List.mem_cons.mp hc with rfl | hc
      · exact hab
      · exact lt_trans hab (hb c hc)
    case isFalse hab =>
      have hne : b ≠ a := ha (b, w) (by simp)
      refine List.pairwise_cons.mpr ⟨fun c hc => ?_, ih hm fun c hc => ha c (by simp [hc])⟩
      rcases Memory.mem_insert hc with rfl | hc
      · exact lt_of_le_of_ne (Nat.le_of_not_lt hab) hne
      · exact hb c hc

/-! ## Writing one byte -/

@[simp] theorem Memory.read_write_same (m : Memory) (a : Nat) (v : Byte) : (m.write a v).read a = v := by
  unfold Memory.write
  split
  case isTrue h => rw [h, Memory.read_erase_same]
  case isFalse h => exact Memory.read_insert_same v (Memory.not_mem_erase m a)

@[simp] theorem Memory.read_write_other (m : Memory) {a c : Nat} (v : Byte) (h : c ≠ a) :
    (m.write a v).read c = m.read c := by
  unfold Memory.write
  split
  · exact Memory.read_erase_other h
  · rw [Memory.read_insert_other v h, Memory.read_erase_other h]

/-- Reading any byte after a write, in one equation. -/
theorem Memory.read_write (m : Memory) (a c : Nat) (v : Byte) :
    (m.write a v).read c = if c = a then v else m.read c := by
  split
  case isTrue h => rw [h, Memory.read_write_same]
  case isFalse h => exact Memory.read_write_other m v h

theorem Memory.write_wf {m : Memory} (a : Nat) (v : Byte) (h : m.wf) : (m.write a v).wf := by
  have he : (Memory.erase a m).wf := ⟨h.1.filter _, fun c hc => h.2 c (Memory.mem_of_mem_erase hc)⟩
  unfold Memory.write
  split
  case isTrue => exact he
  case isFalse hv =>
    refine ⟨Memory.rising_insert v he.1 (Memory.not_mem_erase m a), fun c hc => ?_⟩
    rcases Memory.mem_insert hc with rfl | hc
    · exact hv
    · exact he.2 c hc

theorem Memory.write_within {m : Memory} {n a : Nat} (v : Byte) (h : m.within n) (ha : a < n) :
    (m.write a v).within n := by
  unfold Memory.write
  split
  · exact fun c hc => h c (Memory.mem_of_mem_erase hc)
  · intro c hc
    rcases Memory.mem_insert hc with rfl | hc
    · exact ha
    · exact h c (Memory.mem_of_mem_erase hc)

/-! ## Loading a list of bytes -/

/-- Reading any byte after a load: the bytes loaded, and the old ones everywhere else. -/
theorem Memory.read_load (q : List Byte) (m : Memory) (a c : Nat) :
    (m.load a q).read c = if c < a then m.read c else (q[c - a]?).getD (m.read c) := by
  induction q generalizing m a with
  | nil => simp [Memory.load]
  | cons v vs ih =>
    rw [Memory.load, ih, Memory.read_write]
    rcases lt_trichotomy c a with h | h | h
    · simp [h, Nat.lt_succ_of_lt h, Nat.ne_of_lt h]
    · simp [h]
    · have h1 : ¬ c < a + 1 := by omega
      have h2 : ¬ c < a := by omega
      have h3 : c ≠ a := by omega
      obtain ⟨k, hk⟩ : ∃ k, c - a = k + 1 := ⟨c - a - 1, by omega⟩
      have hk' : c - (a + 1) = k := by omega
      simp [h1, h2, h3, hk, hk']

theorem Memory.load_wf (q : List Byte) {m : Memory} (a : Nat) (h : m.wf) : (m.load a q).wf := by
  induction q generalizing m a with
  | nil => exact h
  | cons v vs ih => exact ih (a + 1) (Memory.write_wf a v h)

theorem Memory.load_within (q : List Byte) {m : Memory} {n a : Nat} (h : m.within n) (hq : a + q.length ≤ n) :
    (m.load a q).within n := by
  induction q generalizing m a with
  | nil => exact h
  | cons v vs ih =>
    simp only [List.length_cons] at hq
    exact ih (Memory.write_within v h (by omega)) (by omega)

/-! ## The canonical form determines the memory -/

theorem Memory.read_of_mem {m : Memory} (h : m.Pairwise fun c d => c.1 < d.1) {a : Nat} {v : Byte}
    (hm : (a, v) ∈ m) : m.read a = v := by
  induction m with
  | nil => simp at hm
  | cons d m ih =>
    obtain ⟨b, w⟩ := d
    obtain ⟨hb, hp⟩ := List.pairwise_cons.mp h
    rcases List.mem_cons.mp hm with e | hm
    · simp [(Prod.mk.inj e).1, (Prod.mk.inj e).2]
    · have hlt : b < a := hb (a, v) hm
      simp [Nat.ne_of_gt hlt, ih hp hm]

theorem Memory.mem_of_read {m : Memory} {a : Nat} (h : m.read a ≠ unwritten) : (a, m.read a) ∈ m := by
  induction m with
  | nil => exact absurd rfl h
  | cons d m ih =>
    obtain ⟨b, w⟩ := d
    by_cases hb : a = b
    · simp [hb]
    · simp only [Memory.read_cons, if_neg hb] at h ⊢
      exact List.mem_cons_of_mem _ (ih h)

/-- Two memories in canonical form that read alike are the same data. -/
theorem Memory.eq_of_read_eq {m n : Memory} (hm : m.wf) (hn : n.wf) (h : ∀ a, m.read a = n.read a) : m = n := by
  have key : ∀ {m n : Memory}, m.wf → n.wf → (∀ a, m.read a = n.read a) → ∀ c ∈ m, c ∈ n := by
    intro m n hm hn h c hc
    have hr := Memory.read_of_mem hm.1 hc
    have := Memory.mem_of_read (m := n) (a := c.1) (by rw [← h, hr]; exact hm.2 c hc)
    rwa [← h, hr] at this
  have nodup : ∀ {m : Memory}, m.wf → m.Nodup := fun hm => hm.1.imp fun hlt e => by simp [e] at hlt
  refine List.Perm.eq_of_pairwise (le := fun c d => c.1 < d.1) ?_ hm.1 hn.1 ?_
  · intro c d _ _ h1 h2
    exact absurd h1 (Nat.lt_asymm h2)
  · exact (List.perm_ext_iff_of_nodup (nodup hm) (nodup hn)).mpr
      fun c => ⟨key hm hn h c, key hn hm (fun a => (h a).symm) c⟩

end Sys2Proof.Machine
end

