-- ==== Sys2Proof/Laws/State.lean ====
section
/-! SUPPORT. One lemma per field per update of the state, each true by unfolding once. -/

namespace Sys2Proof.Machine

/-! ## Registers -/

@[simp] theorem RegFile.get_set_same (f : RegFile) (r : Reg) (v : Byte) : (f.set r v).get r = v := by
  cases r <;> rfl

@[simp] theorem RegFile.get_set_other (f : RegFile) {r q : Reg} (v : Byte) (h : q ≠ r) :
    (f.set r v).get q = f.get q := by
  cases r <;> cases q <;> first | rfl | exact absurd rfl h

@[simp] theorem RegFile.set_get (f : RegFile) (r : Reg) : f.set r (f.get r) = f := by
  cases r <;> rfl

@[simp] theorem readReg_writeReg_same (r : Reg) (v : Byte) (s : State) : readReg r (writeReg r v s) = v :=
  RegFile.get_set_same s.regs r v

@[simp] theorem readReg_writeReg_other {r q : Reg} (v : Byte) (s : State) (h : q ≠ r) :
    readReg q (writeReg r v s) = readReg q s :=
  RegFile.get_set_other s.regs v h

/-- A register reads the same in two states with the same registers. -/
theorem readReg_congr {s t : State} (h : t.regs = s.regs) (r : Reg) : readReg r t = readReg r s :=
  congrArg (RegFile.get · r) h

/-- The pointer pair is the same in two states with the same registers and parameters. -/
theorem pairValue_congr {s t : State} (hr : t.regs = s.regs) (hp : t.params = s.params) :
    pairValue t = pairValue s := by
  simp only [pairValue, hp, readReg_congr hr]

/-- The accumulator is the same in two states with the same registers and parameters. -/
theorem readAcc_congr {s t : State} (hr : t.regs = s.regs) (hp : t.params = s.params) :
    readAcc t = readAcc s := by
  simp only [readAcc, hp, readReg_congr hr]

/-! ## `writeReg` -/

@[simp] theorem writeReg_mem (r : Reg) (v : Byte) (s : State) : (writeReg r v s).mem = s.mem := rfl
@[simp] theorem writeReg_regs (r : Reg) (v : Byte) (s : State) : (writeReg r v s).regs = s.regs.set r v := rfl
@[simp] theorem writeReg_pc (r : Reg) (v : Byte) (s : State) : (writeReg r v s).pc = s.pc := rfl
@[simp] theorem writeReg_sp (r : Reg) (v : Byte) (s : State) : (writeReg r v s).sp = s.sp := rfl
@[simp] theorem writeReg_flags (r : Reg) (v : Byte) (s : State) : (writeReg r v s).flags = s.flags := rfl
@[simp] theorem writeReg_halted (r : Reg) (v : Byte) (s : State) : (writeReg r v s).halted = s.halted := rfl
@[simp] theorem writeReg_trace (r : Reg) (v : Byte) (s : State) : (writeReg r v s).trace = s.trace := rfl
@[simp] theorem writeReg_params (r : Reg) (v : Byte) (s : State) : (writeReg r v s).params = s.params := rfl

/-! ## `report` -/

@[simp] theorem report_mem (e : Event) (s : State) : (report e s).mem = s.mem := rfl
@[simp] theorem report_regs (e : Event) (s : State) : (report e s).regs = s.regs := rfl
@[simp] theorem report_pc (e : Event) (s : State) : (report e s).pc = s.pc := rfl
@[simp] theorem report_sp (e : Event) (s : State) : (report e s).sp = s.sp := rfl
@[simp] theorem report_flags (e : Event) (s : State) : (report e s).flags = s.flags := rfl
@[simp] theorem report_halted (e : Event) (s : State) : (report e s).halted = s.halted := rfl
@[simp] theorem report_trace (e : Event) (s : State) : (report e s).trace = s.trace ++ [e] := rfl
@[simp] theorem report_params (e : Event) (s : State) : (report e s).params = s.params := rfl

/-! ## `raiseHalt` -/

@[simp] theorem raiseHalt_mem (e : Event) (s : State) : (raiseHalt e s).mem = s.mem := rfl
@[simp] theorem raiseHalt_regs (e : Event) (s : State) : (raiseHalt e s).regs = s.regs := rfl
@[simp] theorem raiseHalt_pc (e : Event) (s : State) : (raiseHalt e s).pc = s.pc := rfl
@[simp] theorem raiseHalt_sp (e : Event) (s : State) : (raiseHalt e s).sp = s.sp := rfl
@[simp] theorem raiseHalt_flags (e : Event) (s : State) : (raiseHalt e s).flags = s.flags := rfl
@[simp] theorem raiseHalt_halted (e : Event) (s : State) : (raiseHalt e s).halted = true := rfl
@[simp] theorem raiseHalt_trace (e : Event) (s : State) : (raiseHalt e s).trace = s.trace ++ [e] := rfl
@[simp] theorem raiseHalt_params (e : Event) (s : State) : (raiseHalt e s).params = s.params := rfl

/-! ## `setFlags` -/

@[simp] theorem setFlags_mem (v : Byte) (s : State) : (setFlags v s).mem = s.mem := rfl
@[simp] theorem setFlags_regs (v : Byte) (s : State) : (setFlags v s).regs = s.regs := rfl
@[simp] theorem setFlags_pc (v : Byte) (s : State) : (setFlags v s).pc = s.pc := rfl
@[simp] theorem setFlags_sp (v : Byte) (s : State) : (setFlags v s).sp = s.sp := rfl
@[simp] theorem setFlags_flags (v : Byte) (s : State) : (setFlags v s).flags = setBit (setBit s.flags Config.flagZBit (v == 0x00#8)) Config.flagNBit (v.getLsbD 7) := rfl
@[simp] theorem setFlags_halted (v : Byte) (s : State) : (setFlags v s).halted = s.halted := rfl
@[simp] theorem setFlags_trace (v : Byte) (s : State) : (setFlags v s).trace = s.trace := rfl
@[simp] theorem setFlags_params (v : Byte) (s : State) : (setFlags v s).params = s.params := rfl

/-! ## `advancePc` -/

@[simp] theorem advancePc_mem (s : State) : (advancePc s).mem = s.mem := rfl
@[simp] theorem advancePc_regs (s : State) : (advancePc s).regs = s.regs := rfl
@[simp] theorem advancePc_pc (s : State) : (advancePc s).pc = pcAfter s.params s.pc := rfl
@[simp] theorem advancePc_sp (s : State) : (advancePc s).sp = s.sp := rfl
@[simp] theorem advancePc_flags (s : State) : (advancePc s).flags = s.flags := rfl
@[simp] theorem advancePc_halted (s : State) : (advancePc s).halted = s.halted := rfl
@[simp] theorem advancePc_trace (s : State) : (advancePc s).trace = s.trace := rfl
@[simp] theorem advancePc_params (s : State) : (advancePc s).params = s.params := rfl

/-! ## `resetMachine` -/

@[simp] theorem resetMachine_mem (s : State) : (resetMachine s).mem = [] := rfl
@[simp] theorem resetMachine_regs (s : State) : (resetMachine s).regs = RegFile.zero := rfl
@[simp] theorem resetMachine_pc (s : State) : (resetMachine s).pc = 0 := rfl
@[simp] theorem resetMachine_sp (s : State) : (resetMachine s).sp = 0x0000#16 := rfl
@[simp] theorem resetMachine_flags (s : State) : (resetMachine s).flags = 0x00#8 := rfl
@[simp] theorem resetMachine_halted (s : State) : (resetMachine s).halted = false := rfl
@[simp] theorem resetMachine_trace (s : State) : (resetMachine s).trace = s.trace := rfl
@[simp] theorem resetMachine_params (s : State) : (resetMachine s).params = s.params := rfl

/-! ## `inject` -/

@[simp] theorem inject_mem (q : List Byte) (s : State) : (inject q s).mem = s.mem.load 0 q := rfl
@[simp] theorem inject_regs (q : List Byte) (s : State) : (inject q s).regs = s.regs := rfl
@[simp] theorem inject_pc (q : List Byte) (s : State) : (inject q s).pc = s.pc := rfl
@[simp] theorem inject_sp (q : List Byte) (s : State) : (inject q s).sp = s.sp := rfl
@[simp] theorem inject_flags (q : List Byte) (s : State) : (inject q s).flags = s.flags := rfl
@[simp] theorem inject_halted (q : List Byte) (s : State) : (inject q s).halted = s.halted := rfl
@[simp] theorem inject_trace (q : List Byte) (s : State) : (inject q s).trace = s.trace := rfl
@[simp] theorem inject_params (q : List Byte) (s : State) : (inject q s).params = s.params := rfl

/-! ## The reset state (10_state.md R39) -/

@[simp] theorem reset_mem : State.reset.mem = [] := rfl
@[simp] theorem reset_regs : State.reset.regs = RegFile.zero := rfl
@[simp] theorem reset_pc : State.reset.pc = 0 := rfl
@[simp] theorem reset_sp : State.reset.sp = 0x0000#16 := rfl
@[simp] theorem reset_flags : State.reset.flags = 0x00#8 := rfl
@[simp] theorem reset_halted : State.reset.halted = false := rfl
@[simp] theorem reset_trace : State.reset.trace = [] := rfl
@[simp] theorem reset_params : State.reset.params = Params.default := rfl

@[simp] theorem RegFile.get_zero (r : Reg) : RegFile.zero.get r = 0x00#8 := by
  cases r <;> rfl

end Sys2Proof.Machine
end

