-- ==== Sys2Proof/Laws/Ops.lean ====
section
/-! SUPPORT. For each shared operation, what it can do, said once. -/

namespace Sys2Proof.Machine

/-! ## Flags -/

theorem getLsbD_setBit (w : Byte) {k : Nat} (b : Bool) (j : Nat) (hk : k < 8) :
    (setBit w k b).getLsbD j = if j = k then b else w.getLsbD j := by
  by_cases hj : j < 8
  · interval_cases k <;> interval_cases j <;> cases b <;> simp [setBit]
  · have : j ≠ k := by omega
    simp [this, BitVec.getLsbD_of_ge _ _ (Nat.le_of_not_lt hj)]

@[simp] theorem flagZ_setFlags (v : Byte) (s : State) : flagZ (setFlags v s) = (v == 0x00#8) := by
  rw [flagZ, setFlags_flags, getLsbD_setBit _ _ _ (by decide), getLsbD_setBit _ _ _ (by decide)]
  rfl

@[simp] theorem flagN_setFlags (v : Byte) (s : State) : flagN (setFlags v s) = v.getLsbD 7 := by
  rw [flagN, setFlags_flags, getLsbD_setBit _ _ _ (by decide)]
  rfl

/-- `SetFlags` leaves bits 5 to 0 alone (10_state.md R34). -/
theorem getLsbD_setFlags_low (v : Byte) (s : State) {j : Nat} (h : j < 6) :
    (setFlags v s).flags.getLsbD j = s.flags.getLsbD j := by
  rw [setFlags_flags, getLsbD_setBit _ _ _ (by decide), getLsbD_setBit _ _ _ (by decide),
    if_neg (show j ≠ Config.flagNBit by simp only [Config.flagNBit]; omega),
    if_neg (show j ≠ Config.flagZBit by simp only [Config.flagZBit]; omega)]

/-- A mask of bits 5 to 0, bit by bit. -/
theorem low_eq_iff (w u : Byte) : w &&& 0x3F#8 = u &&& 0x3F#8 ↔ ∀ j < 6, w.getLsbD j = u.getLsbD j := by
  have key : ∀ j, (0x3F#8).getLsbD j = decide (j < 6) := by
    intro j
    by_cases hj : j < 8
    · interval_cases j <;> rfl
    · rw [BitVec.getLsbD_of_ge _ _ (Nat.le_of_not_lt hj)]
      simp
      omega
  constructor
  · intro h j hj
    have := congrArg (·.getLsbD j) h
    simpa [key, hj] using this
  · intro h
    apply BitVec.eq_of_getLsbD_eq
    intro j _
    by_cases hj : j < 6
    · simp [key, hj, h j hj]
    · simp [key, hj]

theorem setFlags_low (v : Byte) (s : State) : (setFlags v s).flags &&& 0x3F#8 = s.flags &&& 0x3F#8 :=
  (low_eq_iff _ _).mpr fun _ h => getLsbD_setFlags_low v s h

/-! ## Memory accesses -/

theorem memRead_inBounds {addr : Nat} {s : State} (h : addr < s.params.memSize) :
    memRead addr s = (s.mem.read addr, s) := if_pos h

theorem memRead_outOfBounds {addr : Nat} {s : State} (h : ¬ addr < s.params.memSize) :
    memRead addr s = (0x00#8, raiseHalt (.oobRead addr) s) := if_neg h

theorem memWrite_inBounds {addr : Nat} {s : State} (v : Byte) (h : addr < s.params.memSize) :
    memWrite addr v s = { s with mem := s.mem.write addr v } := if_pos h

theorem memWrite_outOfBounds {addr : Nat} {s : State} (v : Byte) (h : ¬ addr < s.params.memSize) :
    memWrite addr v s = raiseHalt (.oobWrite addr v) s := if_neg h

/-- Everything a read can do to the state: nothing, or the halting event (20_memory.md R51). -/
theorem memRead_cases (addr : Nat) (s : State) :
    (addr < s.params.memSize ∧ memRead addr s = (s.mem.read addr, s)) ∨
    (s.params.memSize ≤ addr ∧ memRead addr s = (0x00#8, raiseHalt (.oobRead addr) s)) := by
  by_cases h : addr < s.params.memSize
  · exact .inl ⟨h, memRead_inBounds h⟩
  · exact .inr ⟨Nat.le_of_not_lt h, memRead_outOfBounds h⟩

/-- Everything a write can do to the state: one byte, or the halting event (20_memory.md R52). -/
theorem memWrite_cases (addr : Nat) (v : Byte) (s : State) :
    (addr < s.params.memSize ∧ memWrite addr v s = { s with mem := s.mem.write addr v }) ∨
    (s.params.memSize ≤ addr ∧ memWrite addr v s = raiseHalt (.oobWrite addr v) s) := by
  by_cases h : addr < s.params.memSize
  · exact .inl ⟨h, memWrite_inBounds v h⟩
  · exact .inr ⟨Nat.le_of_not_lt h, memWrite_outOfBounds v h⟩

@[simp] theorem memRead_mem (a : Nat) (s : State) : (memRead a s).2.mem = s.mem := by
  unfold memRead; split <;> rfl
@[simp] theorem memRead_regs (a : Nat) (s : State) : (memRead a s).2.regs = s.regs := by
  unfold memRead; split <;> rfl
@[simp] theorem memRead_pc (a : Nat) (s : State) : (memRead a s).2.pc = s.pc := by
  unfold memRead; split <;> rfl
@[simp] theorem memRead_sp (a : Nat) (s : State) : (memRead a s).2.sp = s.sp := by
  unfold memRead; split <;> rfl
@[simp] theorem memRead_flags (a : Nat) (s : State) : (memRead a s).2.flags = s.flags := by
  unfold memRead; split <;> rfl
@[simp] theorem memRead_params (a : Nat) (s : State) : (memRead a s).2.params = s.params := by
  unfold memRead; split <;> rfl

@[simp] theorem memWrite_regs (a : Nat) (v : Byte) (s : State) : (memWrite a v s).regs = s.regs := by
  unfold memWrite; split <;> rfl
@[simp] theorem memWrite_pc (a : Nat) (v : Byte) (s : State) : (memWrite a v s).pc = s.pc := by
  unfold memWrite; split <;> rfl
@[simp] theorem memWrite_sp (a : Nat) (v : Byte) (s : State) : (memWrite a v s).sp = s.sp := by
  unfold memWrite; split <;> rfl
@[simp] theorem memWrite_flags (a : Nat) (v : Byte) (s : State) : (memWrite a v s).flags = s.flags := by
  unfold memWrite; split <;> rfl
@[simp] theorem memWrite_params (a : Nat) (v : Byte) (s : State) : (memWrite a v s).params = s.params := by
  unfold memWrite; split <;> rfl

/-- Memory after a write, in or out of bounds. -/
theorem memWrite_mem (a : Nat) (v : Byte) (s : State) :
    (memWrite a v s).mem = if a < s.params.memSize then s.mem.write a v else s.mem := by
  unfold memWrite; split <;> rfl

/-! ## The program counter and the fetch -/

@[simp] theorem fetch8_mem (s : State) : (fetch8 s).2.mem = s.mem := by simp [fetch8]
@[simp] theorem fetch8_regs (s : State) : (fetch8 s).2.regs = s.regs := by simp [fetch8]
@[simp] theorem fetch8_sp (s : State) : (fetch8 s).2.sp = s.sp := by simp [fetch8]
@[simp] theorem fetch8_flags (s : State) : (fetch8 s).2.flags = s.flags := by simp [fetch8]
@[simp] theorem fetch8_params (s : State) : (fetch8 s).2.params = s.params := by simp [fetch8]
@[simp] theorem fetch8_pc (s : State) : (fetch8 s).2.pc = pcAfter s.params s.pc := by simp [fetch8]

/-- Everything `Fetch8()` can do: the byte and the next `pc`, or the placeholder and the halting event as well
(40_engine.md R103). -/
theorem fetch8_cases (s : State) :
    (s.pc < s.params.memSize ∧ fetch8 s = (s.mem.read s.pc, advancePc s)) ∨
    (s.params.memSize ≤ s.pc ∧ fetch8 s = (0x00#8, advancePc (raiseHalt (.oobRead s.pc) s))) := by
  rcases memRead_cases s.pc s with ⟨h, e⟩ | ⟨h, e⟩
  · exact .inl ⟨h, by simp [fetch8, e]⟩
  · exact .inr ⟨h, by simp [fetch8, e]⟩

theorem fetch8_inBounds {s : State} (h : s.pc < s.params.memSize) :
    fetch8 s = (s.mem.read s.pc, advancePc s) := by
  simp [fetch8, memRead_inBounds h]

theorem fetch8_outOfBounds {s : State} (h : ¬ s.pc < s.params.memSize) :
    fetch8 s = (0x00#8, advancePc (raiseHalt (.oobRead s.pc) s)) := by
  simp [fetch8, memRead_outOfBounds h]

theorem pcAfter_wrap16 {p : Params} (h : p.pcOverflow = .wrap16) (pc : Nat) : pcAfter p pc = (pc + 1) % 65536 := by
  simp [pcAfter, h]

theorem pcAfter_linear {p : Params} (h : p.pcOverflow = .linear) (pc : Nat) : pcAfter p pc = pc + 1 := by
  simp [pcAfter, h]

/-! ## Roles -/

@[simp] theorem readRole_reg (r : Reg) (s : State) : readRole (.reg r) s = (readReg r s, s) := rfl
@[simp] theorem readRole_m (s : State) : readRole .m s = memRead (pairValue s).toNat s := rfl
@[simp] theorem writeRole_reg (r : Reg) (v : Byte) (s : State) : writeRole (.reg r) v s = writeReg r v s := rfl
@[simp] theorem writeRole_m (v : Byte) (s : State) : writeRole .m v s = memWrite (pairValue s).toNat v s := rfl

/-- Everything a move can do, by the form of its roles (42_move.md R140). -/
theorem move_reg_reg (d r : Reg) (s : State) : move (.reg d) (.reg r) s = writeReg d (readReg r s) s := rfl

theorem move_reg_m (d : Reg) (s : State) :
    move (.reg d) .m s = writeReg d (memRead (pairValue s).toNat s).1 (memRead (pairValue s).toNat s).2 := rfl

theorem move_m_reg (r : Reg) (s : State) : move .m (.reg r) s = memWrite (pairValue s).toNat (readReg r s) s := rfl

theorem move_m_m (s : State) :
    move .m .m s = memWrite (pairValue s).toNat (memRead (pairValue s).toNat s).1 (memRead (pairValue s).toNat s).2 := by
  simp only [move, readRole_m, writeRole_m]
  rw [pairValue_congr (memRead_regs _ s) (memRead_params _ s)]

/-! ## Decoding -/

@[simp] theorem opcode_ldi (v : Byte) : (Instr.ldi v).opcode = 0x43#8 := rfl
@[simp] theorem opcode_sta (lo hi : Byte) : (Instr.sta lo hi).opcode = 0x04#8 := rfl

end Sys2Proof.Machine
end

