-- ==== Sys2Proof/Laws/PerInstr.lean ====
section
/-! SUPPORT. The per-instruction family `EncodedLength`: an instruction's encoding is as long as its opcode byte
says (30_encoding.md R70). One lemma per constructor of Instr. -/

namespace Sys2Proof.Laws.EncodedLength

/-- The encoding's length is the one the opcode byte alone determines (R70, R81). -/
def Statement (i : Instr) : Prop := (encode i).length = (opcodeRow i.opcode).length

theorem nop : Statement .nop := rfl
theorem unimp01 : Statement .unimp01 := rfl
theorem unimp02 : Statement .unimp02 := rfl
theorem unimp03 : Statement .unimp03 := rfl
theorem sta (lo hi : Byte) : Statement (.sta lo hi) := by
  show (encode (.sta lo hi)).length = (opcodeRow 0x04#8).length
  rfl
theorem unimp05 : Statement .unimp05 := rfl
theorem unimp06 : Statement .unimp06 := rfl
theorem unimp07 : Statement .unimp07 := rfl
theorem unimp08 : Statement .unimp08 := rfl
theorem unimp09 : Statement .unimp09 := rfl
theorem unimp0A : Statement .unimp0A := rfl
theorem unimp0B : Statement .unimp0B := rfl
theorem unimp0C : Statement .unimp0C := rfl
theorem unimp0D : Statement .unimp0D := rfl
theorem unimp0E : Statement .unimp0E := rfl
theorem unimp0F : Statement .unimp0F := rfl
theorem unimp10 : Statement .unimp10 := rfl
theorem unimp11 : Statement .unimp11 := rfl
theorem unimp12 : Statement .unimp12 := rfl
theorem unimp13 : Statement .unimp13 := rfl
theorem unimp14 : Statement .unimp14 := rfl
theorem unimp15 : Statement .unimp15 := rfl
theorem unimp16 : Statement .unimp16 := rfl
theorem unimp17 : Statement .unimp17 := rfl
theorem unimp18 : Statement .unimp18 := rfl
theorem unimp19 : Statement .unimp19 := rfl
theorem unimp1A : Statement .unimp1A := rfl
theorem unimp1B : Statement .unimp1B := rfl
theorem unimp1C : Statement .unimp1C := rfl
theorem unimp1D : Statement .unimp1D := rfl
theorem unimp1E : Statement .unimp1E := rfl
theorem unimp1F : Statement .unimp1F := rfl
theorem unimp20 : Statement .unimp20 := rfl
theorem unimp21 : Statement .unimp21 := rfl
theorem unimp22 : Statement .unimp22 := rfl
theorem unimp23 : Statement .unimp23 := rfl
theorem unimp24 : Statement .unimp24 := rfl
theorem unimp25 : Statement .unimp25 := rfl
theorem unimp26 : Statement .unimp26 := rfl
theorem unimp27 : Statement .unimp27 := rfl
theorem unimp28 : Statement .unimp28 := rfl
theorem unimp29 : Statement .unimp29 := rfl
theorem unimp2A : Statement .unimp2A := rfl
theorem unimp2B : Statement .unimp2B := rfl
theorem unimp2C : Statement .unimp2C := rfl
theorem unimp2D : Statement .unimp2D := rfl
theorem unimp2E : Statement .unimp2E := rfl
theorem unimp2F : Statement .unimp2F := rfl
theorem unimp30 : Statement .unimp30 := rfl
theorem unimp31 : Statement .unimp31 := rfl
theorem unimp32 : Statement .unimp32 := rfl
theorem unimp33 : Statement .unimp33 := rfl
theorem unimp34 : Statement .unimp34 := rfl
theorem unimp35 : Statement .unimp35 := rfl
theorem unimp36 : Statement .unimp36 := rfl
theorem unimp37 : Statement .unimp37 := rfl
theorem unimp38 : Statement .unimp38 := rfl
theorem unimp39 : Statement .unimp39 := rfl
theorem unimp3A : Statement .unimp3A := rfl
theorem unimp3B : Statement .unimp3B := rfl
theorem unimp3C : Statement .unimp3C := rfl
theorem unimp3D : Statement .unimp3D := rfl
theorem unimp3E : Statement .unimp3E := rfl
theorem unimp3F : Statement .unimp3F := rfl
theorem unimp40 : Statement .unimp40 := rfl
theorem unimp41 : Statement .unimp41 := rfl
theorem unimp42 : Statement .unimp42 := rfl
theorem ldi (imm8 : Byte) : Statement (.ldi imm8) := by
  show (encode (.ldi imm8)).length = (opcodeRow 0x43#8).length
  rfl
theorem unimp44 : Statement .unimp44 := rfl
theorem unimp45 : Statement .unimp45 := rfl
theorem unimp46 : Statement .unimp46 := rfl
theorem unimp47 : Statement .unimp47 := rfl
theorem unimp48 : Statement .unimp48 := rfl
theorem unimp49 : Statement .unimp49 := rfl
theorem unimp4A : Statement .unimp4A := rfl
theorem unimp4B : Statement .unimp4B := rfl
theorem unimp4C : Statement .unimp4C := rfl
theorem unimp4D : Statement .unimp4D := rfl
theorem unimp4E : Statement .unimp4E := rfl
theorem unimp4F : Statement .unimp4F := rfl
theorem unimp50 : Statement .unimp50 := rfl
theorem unimp51 : Statement .unimp51 := rfl
theorem unimp52 : Statement .unimp52 := rfl
theorem unimp53 : Statement .unimp53 := rfl
theorem unimp54 : Statement .unimp54 := rfl
theorem unimp55 : Statement .unimp55 := rfl
theorem unimp56 : Statement .unimp56 := rfl
theorem unimp57 : Statement .unimp57 := rfl
theorem unimp58 : Statement .unimp58 := rfl
theorem unimp59 : Statement .unimp59 := rfl
theorem unimp5A : Statement .unimp5A := rfl
theorem unimp5B : Statement .unimp5B := rfl
theorem unimp5C : Statement .unimp5C := rfl
theorem unimp5D : Statement .unimp5D := rfl
theorem unimp5E : Statement .unimp5E := rfl
theorem unimp5F : Statement .unimp5F := rfl
theorem unimp60 : Statement .unimp60 := rfl
theorem unimp61 : Statement .unimp61 := rfl
theorem unimp62 : Statement .unimp62 := rfl
theorem unimp63 : Statement .unimp63 := rfl
theorem unimp64 : Statement .unimp64 := rfl
theorem unimp65 : Statement .unimp65 := rfl
theorem unimp66 : Statement .unimp66 := rfl
theorem unimp67 : Statement .unimp67 := rfl
theorem unimp68 : Statement .unimp68 := rfl
theorem unimp69 : Statement .unimp69 := rfl
theorem unimp6A : Statement .unimp6A := rfl
theorem unimp6B : Statement .unimp6B := rfl
theorem unimp6C : Statement .unimp6C := rfl
theorem unimp6D : Statement .unimp6D := rfl
theorem unimp6E : Statement .unimp6E := rfl
theorem unimp6F : Statement .unimp6F := rfl
theorem unimp70 : Statement .unimp70 := rfl
theorem unimp71 : Statement .unimp71 := rfl
theorem unimp72 : Statement .unimp72 := rfl
theorem unimp73 : Statement .unimp73 := rfl
theorem unimp74 : Statement .unimp74 := rfl
theorem unimp75 : Statement .unimp75 := rfl
theorem unimp76 : Statement .unimp76 := rfl
theorem unimp77 : Statement .unimp77 := rfl
theorem unimp78 : Statement .unimp78 := rfl
theorem unimp79 : Statement .unimp79 := rfl
theorem unimp7A : Statement .unimp7A := rfl
theorem unimp7B : Statement .unimp7B := rfl
theorem unimp7C : Statement .unimp7C := rfl
theorem unimp7D : Statement .unimp7D := rfl
theorem unimp7E : Statement .unimp7E := rfl
theorem unimp7F : Statement .unimp7F := rfl
theorem unimp80 : Statement .unimp80 := rfl
theorem unimp81 : Statement .unimp81 := rfl
theorem unimp82 : Statement .unimp82 := rfl
theorem unimp83 : Statement .unimp83 := rfl
theorem unimp84 : Statement .unimp84 := rfl
theorem unimp85 : Statement .unimp85 := rfl
theorem unimp86 : Statement .unimp86 := rfl
theorem unimp87 : Statement .unimp87 := rfl
theorem unimp88 : Statement .unimp88 := rfl
theorem unimp89 : Statement .unimp89 := rfl
theorem unimp8A : Statement .unimp8A := rfl
theorem unimp8B : Statement .unimp8B := rfl
theorem unimp8C : Statement .unimp8C := rfl
theorem unimp8D : Statement .unimp8D := rfl
theorem unimp8E : Statement .unimp8E := rfl
theorem unimp8F : Statement .unimp8F := rfl
theorem unimp90 : Statement .unimp90 := rfl
theorem unimp91 : Statement .unimp91 := rfl
theorem unimp92 : Statement .unimp92 := rfl
theorem unimp93 : Statement .unimp93 := rfl
theorem unimp94 : Statement .unimp94 := rfl
theorem inc : Statement .inc := rfl
theorem unimp96 : Statement .unimp96 := rfl
theorem unimp97 : Statement .unimp97 := rfl
theorem unimp98 : Statement .unimp98 := rfl
theorem unimp99 : Statement .unimp99 := rfl
theorem unimp9A : Statement .unimp9A := rfl
theorem unimp9B : Statement .unimp9B := rfl
theorem unimp9C : Statement .unimp9C := rfl
theorem unimp9D : Statement .unimp9D := rfl
theorem unimp9E : Statement .unimp9E := rfl
theorem unimp9F : Statement .unimp9F := rfl
theorem movBB : Statement .movBB := rfl
theorem movCB : Statement .movCB := rfl
theorem movHB : Statement .movHB := rfl
theorem movLB : Statement .movLB := rfl
theorem movAB : Statement .movAB := rfl
theorem movMB : Statement .movMB := rfl
theorem unimpA6 : Statement .unimpA6 := rfl
theorem unimpA7 : Statement .unimpA7 := rfl
theorem unimpA8 : Statement .unimpA8 := rfl
theorem unimpA9 : Statement .unimpA9 := rfl
theorem unimpAA : Statement .unimpAA := rfl
theorem unimpAB : Statement .unimpAB := rfl
theorem unimpAC : Statement .unimpAC := rfl
theorem unimpAD : Statement .unimpAD := rfl
theorem unimpAE : Statement .unimpAE := rfl
theorem unimpAF : Statement .unimpAF := rfl
theorem movBC : Statement .movBC := rfl
theorem movCC : Statement .movCC := rfl
theorem movHC : Statement .movHC := rfl
theorem movLC : Statement .movLC := rfl
theorem movAC : Statement .movAC := rfl
theorem movMC : Statement .movMC := rfl
theorem unimpB6 : Statement .unimpB6 := rfl
theorem unimpB7 : Statement .unimpB7 := rfl
theorem unimpB8 : Statement .unimpB8 := rfl
theorem unimpB9 : Statement .unimpB9 := rfl
theorem unimpBA : Statement .unimpBA := rfl
theorem unimpBB : Statement .unimpBB := rfl
theorem unimpBC : Statement .unimpBC := rfl
theorem unimpBD : Statement .unimpBD := rfl
theorem unimpBE : Statement .unimpBE := rfl
theorem unimpBF : Statement .unimpBF := rfl
theorem movBH : Statement .movBH := rfl
theorem movCH : Statement .movCH := rfl
theorem movHH : Statement .movHH := rfl
theorem movLH : Statement .movLH := rfl
theorem movAH : Statement .movAH := rfl
theorem movMH : Statement .movMH := rfl
theorem unimpC6 : Statement .unimpC6 := rfl
theorem unimpC7 : Statement .unimpC7 := rfl
theorem unimpC8 : Statement .unimpC8 := rfl
theorem unimpC9 : Statement .unimpC9 := rfl
theorem unimpCA : Statement .unimpCA := rfl
theorem unimpCB : Statement .unimpCB := rfl
theorem unimpCC : Statement .unimpCC := rfl
theorem unimpCD : Statement .unimpCD := rfl
theorem unimpCE : Statement .unimpCE := rfl
theorem unimpCF : Statement .unimpCF := rfl
theorem movBL : Statement .movBL := rfl
theorem movCL : Statement .movCL := rfl
theorem movHL : Statement .movHL := rfl
theorem movLL : Statement .movLL := rfl
theorem movAL : Statement .movAL := rfl
theorem movML : Statement .movML := rfl
theorem unimpD6 : Statement .unimpD6 := rfl
theorem unimpD7 : Statement .unimpD7 := rfl
theorem unimpD8 : Statement .unimpD8 := rfl
theorem unimpD9 : Statement .unimpD9 := rfl
theorem unimpDA : Statement .unimpDA := rfl
theorem unimpDB : Statement .unimpDB := rfl
theorem unimpDC : Statement .unimpDC := rfl
theorem unimpDD : Statement .unimpDD := rfl
theorem unimpDE : Statement .unimpDE := rfl
theorem unimpDF : Statement .unimpDF := rfl
theorem movBA : Statement .movBA := rfl
theorem movCA : Statement .movCA := rfl
theorem movHA : Statement .movHA := rfl
theorem movLA : Statement .movLA := rfl
theorem movAA : Statement .movAA := rfl
theorem movMA : Statement .movMA := rfl
theorem unimpE6 : Statement .unimpE6 := rfl
theorem unimpE7 : Statement .unimpE7 := rfl
theorem unimpE8 : Statement .unimpE8 := rfl
theorem unimpE9 : Statement .unimpE9 := rfl
theorem unimpEA : Statement .unimpEA := rfl
theorem unimpEB : Statement .unimpEB := rfl
theorem unimpEC : Statement .unimpEC := rfl
theorem unimpED : Statement .unimpED := rfl
theorem unimpEE : Statement .unimpEE := rfl
theorem unimpEF : Statement .unimpEF := rfl
theorem movBM : Statement .movBM := rfl
theorem movCM : Statement .movCM := rfl
theorem movHM : Statement .movHM := rfl
theorem movLM : Statement .movLM := rfl
theorem movAM : Statement .movAM := rfl
theorem movMM : Statement .movMM := rfl
theorem unimpF6 : Statement .unimpF6 := rfl
theorem unimpF7 : Statement .unimpF7 := rfl
theorem unimpF8 : Statement .unimpF8 := rfl
theorem unimpF9 : Statement .unimpF9 := rfl
theorem unimpFA : Statement .unimpFA := rfl
theorem unimpFB : Statement .unimpFB := rfl
theorem unimpFC : Statement .unimpFC := rfl
theorem unimpFD : Statement .unimpFD := rfl
theorem unimpFE : Statement .unimpFE := rfl
theorem hlt : Statement .hlt := rfl

end Sys2Proof.Laws.EncodedLength
end

