-- ==== Sys2Proof/Tests/Slice0.lean ====
section
/-! SUPPORT. The model's own tests: the words of the opcode table, the checks of well-formedness, one-step vectors of
spec/95_test_vectors.md with their expected values, and for each statement with hypotheses a witness that meets them. -/

namespace Sys2Proof.Machine

/-! ## Decoding: every row of spec/opcode_table.json, its bits written out from the row's `encoding` -/

/-- `decode` of the written bytes (and one byte after them) is the instruction, with that byte left over. -/
def decodesTo (p : List Byte × Instr) : Bool := decode (p.1 ++ [0xA5#8]) == .ok (p.2, [0xA5#8])

/-- Words `00` to `0F` of the table (R76). -/
theorem test_decode_row_0 : [
    ([0b00000000#8], Instr.nop), ([0b00000001#8], Instr.unimp01), ([0b00000010#8], Instr.unimp02), ([0b00000011#8], Instr.unimp03),
    ([0b00000100#8, 0b00110100#8, 0b00010010#8], Instr.sta 0x34#8 0x12#8), ([0b00000101#8], Instr.unimp05), ([0b00000110#8], Instr.unimp06), ([0b00000111#8], Instr.unimp07),
    ([0b00001000#8], Instr.unimp08), ([0b00001001#8], Instr.unimp09), ([0b00001010#8], Instr.unimp0A), ([0b00001011#8], Instr.unimp0B),
    ([0b00001100#8], Instr.unimp0C), ([0b00001101#8], Instr.unimp0D), ([0b00001110#8], Instr.unimp0E), ([0b00001111#8], Instr.unimp0F)].all decodesTo = true := by decide

/-- Words `10` to `1F` of the table (R76). -/
theorem test_decode_row_1 : [
    ([0b00010000#8], Instr.unimp10), ([0b00010001#8], Instr.unimp11), ([0b00010010#8], Instr.unimp12), ([0b00010011#8], Instr.unimp13),
    ([0b00010100#8], Instr.unimp14), ([0b00010101#8], Instr.unimp15), ([0b00010110#8], Instr.unimp16), ([0b00010111#8], Instr.unimp17),
    ([0b00011000#8], Instr.unimp18), ([0b00011001#8], Instr.unimp19), ([0b00011010#8], Instr.unimp1A), ([0b00011011#8], Instr.unimp1B),
    ([0b00011100#8], Instr.unimp1C), ([0b00011101#8], Instr.unimp1D), ([0b00011110#8], Instr.unimp1E), ([0b00011111#8], Instr.unimp1F)].all decodesTo = true := by decide

/-- Words `20` to `2F` of the table (R76). -/
theorem test_decode_row_2 : [
    ([0b00100000#8], Instr.unimp20), ([0b00100001#8], Instr.unimp21), ([0b00100010#8], Instr.unimp22), ([0b00100011#8], Instr.unimp23),
    ([0b00100100#8], Instr.unimp24), ([0b00100101#8], Instr.unimp25), ([0b00100110#8], Instr.unimp26), ([0b00100111#8], Instr.unimp27),
    ([0b00101000#8], Instr.unimp28), ([0b00101001#8], Instr.unimp29), ([0b00101010#8], Instr.unimp2A), ([0b00101011#8], Instr.unimp2B),
    ([0b00101100#8], Instr.unimp2C), ([0b00101101#8], Instr.unimp2D), ([0b00101110#8], Instr.unimp2E), ([0b00101111#8], Instr.unimp2F)].all decodesTo = true := by decide

/-- Words `30` to `3F` of the table (R76). -/
theorem test_decode_row_3 : [
    ([0b00110000#8], Instr.unimp30), ([0b00110001#8], Instr.unimp31), ([0b00110010#8], Instr.unimp32), ([0b00110011#8], Instr.unimp33),
    ([0b00110100#8], Instr.unimp34), ([0b00110101#8], Instr.unimp35), ([0b00110110#8], Instr.unimp36), ([0b00110111#8], Instr.unimp37),
    ([0b00111000#8], Instr.unimp38), ([0b00111001#8], Instr.unimp39), ([0b00111010#8], Instr.unimp3A), ([0b00111011#8], Instr.unimp3B),
    ([0b00111100#8], Instr.unimp3C), ([0b00111101#8], Instr.unimp3D), ([0b00111110#8], Instr.unimp3E), ([0b00111111#8], Instr.unimp3F)].all decodesTo = true := by decide

/-- Words `40` to `4F` of the table (R76). -/
theorem test_decode_row_4 : [
    ([0b01000000#8], Instr.unimp40), ([0b01000001#8], Instr.unimp41), ([0b01000010#8], Instr.unimp42), ([0b01000011#8, 0b10011100#8], Instr.ldi 0x9C#8),
    ([0b01000100#8], Instr.unimp44), ([0b01000101#8], Instr.unimp45), ([0b01000110#8], Instr.unimp46), ([0b01000111#8], Instr.unimp47),
    ([0b01001000#8], Instr.unimp48), ([0b01001001#8], Instr.unimp49), ([0b01001010#8], Instr.unimp4A), ([0b01001011#8], Instr.unimp4B),
    ([0b01001100#8], Instr.unimp4C), ([0b01001101#8], Instr.unimp4D), ([0b01001110#8], Instr.unimp4E), ([0b01001111#8], Instr.unimp4F)].all decodesTo = true := by decide

/-- Words `50` to `5F` of the table (R76). -/
theorem test_decode_row_5 : [
    ([0b01010000#8], Instr.unimp50), ([0b01010001#8], Instr.unimp51), ([0b01010010#8], Instr.unimp52), ([0b01010011#8], Instr.unimp53),
    ([0b01010100#8], Instr.unimp54), ([0b01010101#8], Instr.unimp55), ([0b01010110#8], Instr.unimp56), ([0b01010111#8], Instr.unimp57),
    ([0b01011000#8], Instr.unimp58), ([0b01011001#8], Instr.unimp59), ([0b01011010#8], Instr.unimp5A), ([0b01011011#8], Instr.unimp5B),
    ([0b01011100#8], Instr.unimp5C), ([0b01011101#8], Instr.unimp5D), ([0b01011110#8], Instr.unimp5E), ([0b01011111#8], Instr.unimp5F)].all decodesTo = true := by decide

/-- Words `60` to `6F` of the table (R76). -/
theorem test_decode_row_6 : [
    ([0b01100000#8], Instr.unimp60), ([0b01100001#8], Instr.unimp61), ([0b01100010#8], Instr.unimp62), ([0b01100011#8], Instr.unimp63),
    ([0b01100100#8], Instr.unimp64), ([0b01100101#8], Instr.unimp65), ([0b01100110#8], Instr.unimp66), ([0b01100111#8], Instr.unimp67),
    ([0b01101000#8], Instr.unimp68), ([0b01101001#8], Instr.unimp69), ([0b01101010#8], Instr.unimp6A), ([0b01101011#8], Instr.unimp6B),
    ([0b01101100#8], Instr.unimp6C), ([0b01101101#8], Instr.unimp6D), ([0b01101110#8], Instr.unimp6E), ([0b01101111#8], Instr.unimp6F)].all decodesTo = true := by decide

/-- Words `70` to `7F` of the table (R76). -/
theorem test_decode_row_7 : [
    ([0b01110000#8], Instr.unimp70), ([0b01110001#8], Instr.unimp71), ([0b01110010#8], Instr.unimp72), ([0b01110011#8], Instr.unimp73),
    ([0b01110100#8], Instr.unimp74), ([0b01110101#8], Instr.unimp75), ([0b01110110#8], Instr.unimp76), ([0b01110111#8], Instr.unimp77),
    ([0b01111000#8], Instr.unimp78), ([0b01111001#8], Instr.unimp79), ([0b01111010#8], Instr.unimp7A), ([0b01111011#8], Instr.unimp7B),
    ([0b01111100#8], Instr.unimp7C), ([0b01111101#8], Instr.unimp7D), ([0b01111110#8], Instr.unimp7E), ([0b01111111#8], Instr.unimp7F)].all decodesTo = true := by decide

/-- Words `80` to `8F` of the table (R76). -/
theorem test_decode_row_8 : [
    ([0b10000000#8], Instr.unimp80), ([0b10000001#8], Instr.unimp81), ([0b10000010#8], Instr.unimp82), ([0b10000011#8], Instr.unimp83),
    ([0b10000100#8], Instr.unimp84), ([0b10000101#8], Instr.unimp85), ([0b10000110#8], Instr.unimp86), ([0b10000111#8], Instr.unimp87),
    ([0b10001000#8], Instr.unimp88), ([0b10001001#8], Instr.unimp89), ([0b10001010#8], Instr.unimp8A), ([0b10001011#8], Instr.unimp8B),
    ([0b10001100#8], Instr.unimp8C), ([0b10001101#8], Instr.unimp8D), ([0b10001110#8], Instr.unimp8E), ([0b10001111#8], Instr.unimp8F)].all decodesTo = true := by decide

/-- Words `90` to `9F` of the table (R76). -/
theorem test_decode_row_9 : [
    ([0b10010000#8], Instr.unimp90), ([0b10010001#8], Instr.unimp91), ([0b10010010#8], Instr.unimp92), ([0b10010011#8], Instr.unimp93),
    ([0b10010100#8], Instr.unimp94), ([0b10010101#8], Instr.inc), ([0b10010110#8], Instr.unimp96), ([0b10010111#8], Instr.unimp97),
    ([0b10011000#8], Instr.unimp98), ([0b10011001#8], Instr.unimp99), ([0b10011010#8], Instr.unimp9A), ([0b10011011#8], Instr.unimp9B),
    ([0b10011100#8], Instr.unimp9C), ([0b10011101#8], Instr.unimp9D), ([0b10011110#8], Instr.unimp9E), ([0b10011111#8], Instr.unimp9F)].all decodesTo = true := by decide

/-- Words `A0` to `AF` of the table (R76). -/
theorem test_decode_row_A : [
    ([0b10100000#8], Instr.movBB), ([0b10100001#8], Instr.movCB), ([0b10100010#8], Instr.movHB), ([0b10100011#8], Instr.movLB),
    ([0b10100100#8], Instr.movAB), ([0b10100101#8], Instr.movMB), ([0b10100110#8], Instr.unimpA6), ([0b10100111#8], Instr.unimpA7),
    ([0b10101000#8], Instr.unimpA8), ([0b10101001#8], Instr.unimpA9), ([0b10101010#8], Instr.unimpAA), ([0b10101011#8], Instr.unimpAB),
    ([0b10101100#8], Instr.unimpAC), ([0b10101101#8], Instr.unimpAD), ([0b10101110#8], Instr.unimpAE), ([0b10101111#8], Instr.unimpAF)].all decodesTo = true := by decide

/-- Words `B0` to `BF` of the table (R76). -/
theorem test_decode_row_B : [
    ([0b10110000#8], Instr.movBC), ([0b10110001#8], Instr.movCC), ([0b10110010#8], Instr.movHC), ([0b10110011#8], Instr.movLC),
    ([0b10110100#8], Instr.movAC), ([0b10110101#8], Instr.movMC), ([0b10110110#8], Instr.unimpB6), ([0b10110111#8], Instr.unimpB7),
    ([0b10111000#8], Instr.unimpB8), ([0b10111001#8], Instr.unimpB9), ([0b10111010#8], Instr.unimpBA), ([0b10111011#8], Instr.unimpBB),
    ([0b10111100#8], Instr.unimpBC), ([0b10111101#8], Instr.unimpBD), ([0b10111110#8], Instr.unimpBE), ([0b10111111#8], Instr.unimpBF)].all decodesTo = true := by decide

/-- Words `C0` to `CF` of the table (R76). -/
theorem test_decode_row_C : [
    ([0b11000000#8], Instr.movBH), ([0b11000001#8], Instr.movCH), ([0b11000010#8], Instr.movHH), ([0b11000011#8], Instr.movLH),
    ([0b11000100#8], Instr.movAH), ([0b11000101#8], Instr.movMH), ([0b11000110#8], Instr.unimpC6), ([0b11000111#8], Instr.unimpC7),
    ([0b11001000#8], Instr.unimpC8), ([0b11001001#8], Instr.unimpC9), ([0b11001010#8], Instr.unimpCA), ([0b11001011#8], Instr.unimpCB),
    ([0b11001100#8], Instr.unimpCC), ([0b11001101#8], Instr.unimpCD), ([0b11001110#8], Instr.unimpCE), ([0b11001111#8], Instr.unimpCF)].all decodesTo = true := by decide

/-- Words `D0` to `DF` of the table (R76). -/
theorem test_decode_row_D : [
    ([0b11010000#8], Instr.movBL), ([0b11010001#8], Instr.movCL), ([0b11010010#8], Instr.movHL), ([0b11010011#8], Instr.movLL),
    ([0b11010100#8], Instr.movAL), ([0b11010101#8], Instr.movML), ([0b11010110#8], Instr.unimpD6), ([0b11010111#8], Instr.unimpD7),
    ([0b11011000#8], Instr.unimpD8), ([0b11011001#8], Instr.unimpD9), ([0b11011010#8], Instr.unimpDA), ([0b11011011#8], Instr.unimpDB),
    ([0b11011100#8], Instr.unimpDC), ([0b11011101#8], Instr.unimpDD), ([0b11011110#8], Instr.unimpDE), ([0b11011111#8], Instr.unimpDF)].all decodesTo = true := by decide

/-- Words `E0` to `EF` of the table (R76). -/
theorem test_decode_row_E : [
    ([0b11100000#8], Instr.movBA), ([0b11100001#8], Instr.movCA), ([0b11100010#8], Instr.movHA), ([0b11100011#8], Instr.movLA),
    ([0b11100100#8], Instr.movAA), ([0b11100101#8], Instr.movMA), ([0b11100110#8], Instr.unimpE6), ([0b11100111#8], Instr.unimpE7),
    ([0b11101000#8], Instr.unimpE8), ([0b11101001#8], Instr.unimpE9), ([0b11101010#8], Instr.unimpEA), ([0b11101011#8], Instr.unimpEB),
    ([0b11101100#8], Instr.unimpEC), ([0b11101101#8], Instr.unimpED), ([0b11101110#8], Instr.unimpEE), ([0b11101111#8], Instr.unimpEF)].all decodesTo = true := by decide

/-- Words `F0` to `FF` of the table (R76). -/
theorem test_decode_row_F : [
    ([0b11110000#8], Instr.movBM), ([0b11110001#8], Instr.movCM), ([0b11110010#8], Instr.movHM), ([0b11110011#8], Instr.movLM),
    ([0b11110100#8], Instr.movAM), ([0b11110101#8], Instr.movMM), ([0b11110110#8], Instr.unimpF6), ([0b11110111#8], Instr.unimpF7),
    ([0b11111000#8], Instr.unimpF8), ([0b11111001#8], Instr.unimpF9), ([0b11111010#8], Instr.unimpFA), ([0b11111011#8], Instr.unimpFB),
    ([0b11111100#8], Instr.unimpFC), ([0b11111101#8], Instr.unimpFD), ([0b11111110#8], Instr.unimpFE), ([0b11111111#8], Instr.hlt)].all decodesTo = true := by decide

/-- The table's numbering: the first byte is the low byte of the word, missing operand bits are 0. -/
theorem test_decodeTableWord :
    decodeTableWord 8 0xE5 = some .movMA ∧ decodeTableWord 16 0x9C43 = some (.ldi 0x9C#8) ∧
    decodeTableWord 24 0x123404 = some (.sta 0x34#8 0x12#8) ∧ decodeTableWord 8 0x43 = some (.ldi 0x00#8) := by decide

/-! ## Well-formedness: each check refuses an ill-formed term -/

/-- The smallest and the largest memory are allowed, one byte less or more is refused (R8). -/
theorem test_wf_memSize :
    { Params.default with memSize := 1024 }.wellFormed = true ∧ Params.default.wellFormed = true ∧
    { Params.default with memSize := 1023 }.wellFormed = false ∧
    { Params.default with memSize := 65537 }.wellFormed = false := by decide

/-- Two names of one role are refused (R8). -/
theorem test_wf_roleTable :
    RoleTable.default.wellFormed = true ∧ { RoleTable.default with l := .r4 }.wellFormed = false := by decide

/-- An empty guard is refused, and one that does not fit after the safe part of the region (R8, R204). -/
theorem test_wf_guard :
    { Params.default with guardBytes := [] }.wellFormed = false ∧
    { Params.default with guardBytes := List.replicate 960 0x55#8 }.wellFormed = true ∧
    { Params.default with guardBytes := List.replicate 961 0x55#8 }.wellFormed = false := by decide +kernel

/-- `UNIMP` of an opcode that has a handler is refused (R83). -/
theorem test_wf_asm :
    (Asm.unimp 0x96#8).wellFormed = true ∧ (Asm.unimp 0x95#8).wellFormed = false ∧
    (Asm.unimp 0xF5#8).wellFormed = false ∧ (Asm.unimp 0xF6#8).wellFormed = true := by decide

/-! ## States the tests start from -/

/-- Reset with a program at `pc`, registers `B C H L A`, and flags. -/
def start (pc : Nat) (program : List Byte) (regs : RegFile) (flags : Byte) : State :=
  { State.reset with mem := placeAt Params.default pc [] program, regs := regs, pc := pc, flags := flags }

/-- Registers that hold zero but for the accumulator. -/
def acc (a : Byte) : RegFile := { RegFile.zero with x4 := a }

/-- The state with a memory of 1024 bytes. -/
def small (s : State) : State := { s with params := { s.params with memSize := 1024 } }

/-- The state under `PC_OVERFLOW = linear`. -/
def linear (s : State) : State := { s with params := { s.params with pcOverflow := .linear } }

/-- The registers of `E0` (42_move.md). -/
def regsE0 : RegFile := { x0 := 0x11#8, x1 := 0x22#8, x2 := 0x30#8, x3 := 0x40#8, x4 := 0x55#8 }

/-- `E0` with an opcode at 0x0100. -/
def stateE0 (op : Byte) : State := { start 0x0100 [op] regsE0 0x00#8 with mem := [(0x0100, op), (0x3040, 0x66#8)] }

/-- The state after one step. -/
def one (s : State) : State := stepState s

/-- What the vectors list of a state. -/
structure Seen where
  a : Byte
  flags : Byte
  pc : Nat
  halted : Bool
  trace : List Event
deriving DecidableEq, Repr

/-- What a vector sees of a state. -/
def seen (s : State) : Seen := ⟨s.regs.x4, s.flags, s.pc, s.halted, s.trace⟩

/-! ## One step: 95_test_vectors.md, section 2 -/

/-- V1, V5u. -/
theorem test_nop :
    seen (one (start 0x0010 [0x00#8] RegFile.zero 0x00#8)) = ⟨0x00#8, 0x00#8, 0x0011, false, []⟩ ∧
    (one (start 0xFFFF [0x00#8] RegFile.zero 0x00#8)).pc = 0x0000 := by decide

/-- V2, V3u, V4u. -/
theorem test_unimplemented :
    seen (one (start 0 [0x96#8] (acc 0x12#8) 0x80#8)) = ⟨0x12#8, 0x80#8, 0x0001, false, []⟩ ∧
    (one (start 0 [0x05#8, 0x43#8] RegFile.zero 0x00#8)).pc = 0x0001 ∧
    seen (one (start 0 [0xA6#8] (acc 0x12#8) 0x40#8)) = ⟨0x12#8, 0x40#8, 0x0001, false, []⟩ := by decide

/-- V3 to V8. -/
theorem test_ldi :
    seen (one (start 0 [0x43#8, 0x00#8] (acc 0x12#8) 0x80#8)) = ⟨0x00#8, 0x40#8, 0x0002, false, []⟩ ∧
    seen (one (start 0 [0x43#8, 0x01#8] RegFile.zero 0x40#8)) = ⟨0x01#8, 0x00#8, 0x0002, false, []⟩ ∧
    seen (one (start 0 [0x43#8, 0x7F#8] RegFile.zero 0x00#8)) = ⟨0x7F#8, 0x00#8, 0x0002, false, []⟩ ∧
    seen (one (start 0 [0x43#8, 0x80#8] RegFile.zero 0x00#8)) = ⟨0x80#8, 0x80#8, 0x0002, false, []⟩ ∧
    seen (one (start 0xFFFF [0x43#8, 0x9C#8] RegFile.zero 0x00#8)) = ⟨0x9C#8, 0x80#8, 0x0001, false, []⟩ := by decide

/-- V9, V10. -/
theorem test_ldi_outOfBounds :
    seen (one (linear (start 0xFFFF [0x43#8] (acc 0x12#8) 0x00#8))) =
      ⟨0x00#8, 0x40#8, 0x10001, true, [.oobRead 0x10000]⟩ ∧
    seen (one (small (start 0x03FF [0x43#8] (acc 0x12#8) 0x80#8))) =
      ⟨0x00#8, 0x40#8, 0x0401, true, [.oobRead 0x0400]⟩ := by decide

/-- V11, V13. -/
theorem test_sta :
    (one (start 0 [0x04#8, 0x34#8, 0x12#8] (acc 0x2A#8) 0x80#8)).mem.read 0x1234 = 0x2A#8 ∧
    seen (one (start 0 [0x04#8, 0x34#8, 0x12#8] (acc 0x2A#8) 0x80#8)) = ⟨0x2A#8, 0x80#8, 0x0003, false, []⟩ ∧
    (one (start 0xFFFE [0x04#8, 0x10#8, 0x20#8] (acc 0x5A#8) 0x00#8)).mem.read 0x2010 = 0x5A#8 ∧
    (one (start 0xFFFE [0x04#8, 0x10#8, 0x20#8] (acc 0x5A#8) 0x00#8)).pc = 0x0001 := by decide

/-- V16, V17, V18. -/
theorem test_sta_outOfBounds :
    seen (one (small (start 0 [0x04#8, 0x00#8, 0x04#8] (acc 0x77#8) 0x00#8))) =
      ⟨0x77#8, 0x00#8, 0x0003, true, [.oobWrite 0x0400 0x77#8]⟩ ∧
    (one (small (start 0 [0x04#8, 0x00#8, 0x04#8] (acc 0x77#8) 0x00#8))).mem = [(0, 0x04#8), (2, 0x04#8)] ∧
    seen (one (small (start 0x03FF [0x04#8] (acc 0x44#8) 0x00#8))) =
      ⟨0x44#8, 0x00#8, 0x0402, true, [.oobRead 0x0400, .oobRead 0x0401]⟩ ∧
    (one (small (start 0x03FF [0x04#8] (acc 0x44#8) 0x00#8))).mem.read 0x0000 = 0x44#8 ∧
    (one (small (start 0x03FE [0x04#8, 0x05#8] (acc 0x44#8) 0x00#8))).mem.read 0x0005 = 0x44#8 := by decide

/-- V20, V21, and V22: no step is taken after it. -/
theorem test_hlt :
    seen (one (start 0 [0xFF#8] RegFile.zero 0x00#8)) = ⟨0x00#8, 0x00#8, 0x0001, true, [.syscall 0x00#8]⟩ ∧
    seen (one (start 0 [0xFF#8] (acc 0xFF#8) 0x80#8)) = ⟨0xFF#8, 0x80#8, 0x0001, true, [.syscall 0xFF#8]⟩ ∧
    step (one (start 0 [0xFF#8] RegFile.zero 0x00#8)) = .fault .halted := ⟨by decide, by decide, rfl⟩

/-- V23 to V26b. -/
theorem test_inc :
    seen (one (start 0 [0x95#8] (acc 0xFF#8) 0x80#8)) = ⟨0x00#8, 0x40#8, 0x0001, false, []⟩ ∧
    seen (one (start 0 [0x95#8] (acc 0x7F#8) 0x00#8)) = ⟨0x80#8, 0x80#8, 0x0001, false, []⟩ ∧
    seen (one (start 0 [0x95#8] (acc 0x80#8) 0x00#8)) = ⟨0x81#8, 0x80#8, 0x0001, false, []⟩ ∧
    seen (one (start 0 [0x95#8] (acc 0x00#8) 0x40#8)) = ⟨0x01#8, 0x00#8, 0x0001, false, []⟩ ∧
    seen (one (start 0 [0x95#8] (acc 0xFE#8) 0x00#8)) = ⟨0xFF#8, 0x80#8, 0x0001, false, []⟩ := by decide

/-- One step from `E0`: the registers and `mem[0x3040]` are as listed, flags 0x00, `pc` 0x0101, RUNNING. -/
def moves (v : Byte × RegFile × Byte) : Bool :=
  let t := one (stateE0 v.1)
  t.regs == v.2.1 && t.mem.read 0x3040 == v.2.2 && t.flags == 0x00#8 && t.pc == 0x0101 && !t.halted && t.trace == []

/-- The examples of R144 to R149: the moves from B. -/
theorem test_moves_from_B : [
    (0xA0#8, ⟨0x11#8, 0x22#8, 0x30#8, 0x40#8, 0x55#8⟩, 0x66#8),
    (0xA1#8, ⟨0x11#8, 0x11#8, 0x30#8, 0x40#8, 0x55#8⟩, 0x66#8),
    (0xA2#8, ⟨0x11#8, 0x22#8, 0x11#8, 0x40#8, 0x55#8⟩, 0x66#8),
    (0xA3#8, ⟨0x11#8, 0x22#8, 0x30#8, 0x11#8, 0x55#8⟩, 0x66#8),
    (0xA4#8, ⟨0x11#8, 0x22#8, 0x30#8, 0x40#8, 0x11#8⟩, 0x66#8),
    (0xA5#8, ⟨0x11#8, 0x22#8, 0x30#8, 0x40#8, 0x55#8⟩, 0x11#8)].all moves = true := by decide

/-- The examples of R150 to R155: the moves from C. -/
theorem test_moves_from_C : [
    (0xB0#8, ⟨0x22#8, 0x22#8, 0x30#8, 0x40#8, 0x55#8⟩, 0x66#8),
    (0xB1#8, ⟨0x11#8, 0x22#8, 0x30#8, 0x40#8, 0x55#8⟩, 0x66#8),
    (0xB2#8, ⟨0x11#8, 0x22#8, 0x22#8, 0x40#8, 0x55#8⟩, 0x66#8),
    (0xB3#8, ⟨0x11#8, 0x22#8, 0x30#8, 0x22#8, 0x55#8⟩, 0x66#8),
    (0xB4#8, ⟨0x11#8, 0x22#8, 0x30#8, 0x40#8, 0x22#8⟩, 0x66#8),
    (0xB5#8, ⟨0x11#8, 0x22#8, 0x30#8, 0x40#8, 0x55#8⟩, 0x22#8)].all moves = true := by decide

/-- The examples of R156 to R161: the moves from H. -/
theorem test_moves_from_H : [
    (0xC0#8, ⟨0x30#8, 0x22#8, 0x30#8, 0x40#8, 0x55#8⟩, 0x66#8),
    (0xC1#8, ⟨0x11#8, 0x30#8, 0x30#8, 0x40#8, 0x55#8⟩, 0x66#8),
    (0xC2#8, ⟨0x11#8, 0x22#8, 0x30#8, 0x40#8, 0x55#8⟩, 0x66#8),
    (0xC3#8, ⟨0x11#8, 0x22#8, 0x30#8, 0x30#8, 0x55#8⟩, 0x66#8),
    (0xC4#8, ⟨0x11#8, 0x22#8, 0x30#8, 0x40#8, 0x30#8⟩, 0x66#8),
    (0xC5#8, ⟨0x11#8, 0x22#8, 0x30#8, 0x40#8, 0x55#8⟩, 0x30#8)].all moves = true := by decide

/-- The examples of R162 to R167: the moves from L. -/
theorem test_moves_from_L : [
    (0xD0#8, ⟨0x40#8, 0x22#8, 0x30#8, 0x40#8, 0x55#8⟩, 0x66#8),
    (0xD1#8, ⟨0x11#8, 0x40#8, 0x30#8, 0x40#8, 0x55#8⟩, 0x66#8),
    (0xD2#8, ⟨0x11#8, 0x22#8, 0x40#8, 0x40#8, 0x55#8⟩, 0x66#8),
    (0xD3#8, ⟨0x11#8, 0x22#8, 0x30#8, 0x40#8, 0x55#8⟩, 0x66#8),
    (0xD4#8, ⟨0x11#8, 0x22#8, 0x30#8, 0x40#8, 0x40#8⟩, 0x66#8),
    (0xD5#8, ⟨0x11#8, 0x22#8, 0x30#8, 0x40#8, 0x55#8⟩, 0x40#8)].all moves = true := by decide

/-- The examples of R168 to R173: the moves from A. -/
theorem test_moves_from_A : [
    (0xE0#8, ⟨0x55#8, 0x22#8, 0x30#8, 0x40#8, 0x55#8⟩, 0x66#8),
    (0xE1#8, ⟨0x11#8, 0x55#8, 0x30#8, 0x40#8, 0x55#8⟩, 0x66#8),
    (0xE2#8, ⟨0x11#8, 0x22#8, 0x55#8, 0x40#8, 0x55#8⟩, 0x66#8),
    (0xE3#8, ⟨0x11#8, 0x22#8, 0x30#8, 0x55#8, 0x55#8⟩, 0x66#8),
    (0xE4#8, ⟨0x11#8, 0x22#8, 0x30#8, 0x40#8, 0x55#8⟩, 0x66#8),
    (0xE5#8, ⟨0x11#8, 0x22#8, 0x30#8, 0x40#8, 0x55#8⟩, 0x55#8)].all moves = true := by decide

/-- The examples of R174 to R179: the moves from M. -/
theorem test_moves_from_M : [
    (0xF0#8, ⟨0x66#8, 0x22#8, 0x30#8, 0x40#8, 0x55#8⟩, 0x66#8),
    (0xF1#8, ⟨0x11#8, 0x66#8, 0x30#8, 0x40#8, 0x55#8⟩, 0x66#8),
    (0xF2#8, ⟨0x11#8, 0x22#8, 0x66#8, 0x40#8, 0x55#8⟩, 0x66#8),
    (0xF3#8, ⟨0x11#8, 0x22#8, 0x30#8, 0x66#8, 0x55#8⟩, 0x66#8),
    (0xF4#8, ⟨0x11#8, 0x22#8, 0x30#8, 0x40#8, 0x66#8⟩, 0x66#8),
    (0xF5#8, ⟨0x11#8, 0x22#8, 0x30#8, 0x40#8, 0x55#8⟩, 0x66#8)].all moves = true := by decide

/-- V38: a move into A leaves Z as it was. -/
theorem test_move_keeps_flags : (one { stateE0 0xA4#8 with flags := 0x40#8 }).flags = 0x40#8 := by decide

/-- V39, V40, V41. -/
theorem test_moves_outOfBounds :
    seen (one (small (start 0 [0xF4#8] { acc 0x33#8 with x2 := 0x04#8 } 0x00#8))) =
      ⟨0x00#8, 0x00#8, 0x0001, true, [.oobRead 0x0400]⟩ ∧
    seen (one (small (start 0 [0xE5#8] { acc 0x99#8 with x2 := 0x04#8 } 0x00#8))) =
      ⟨0x99#8, 0x00#8, 0x0001, true, [.oobWrite 0x0400 0x99#8]⟩ ∧
    seen (one (small (start 0 [0xF5#8] { acc 0x99#8 with x2 := 0x04#8 } 0x00#8))) =
      ⟨0x99#8, 0x00#8, 0x0001, true, [.oobRead 0x0400, .oobWrite 0x0400 0x00#8]⟩ := by decide

/-- W1: the opcode fetch itself is out of bounds, and NOP is dispatched. -/
theorem test_fetch_outOfBounds :
    seen (one { linear State.reset with pc := 0x10000 }) = ⟨0x00#8, 0x00#8, 0x10001, true, [.oobRead 0x10000]⟩ := by decide

/-- `withFetchWord` puts the word where the next step fetches it. -/
theorem test_withFetchWord :
    seen (one (State.reset.withFetchWord 16 0x8043)) = ⟨0x80#8, 0x80#8, 0x0002, false, []⟩ ∧
    (one (State.reset.withFetchWord 24 0x123404)).pc = 0x0003 ∧
    seen (one (State.reset.withFetchWord 8 0xFF)) = ⟨0x00#8, 0x00#8, 0x0001, true, [.syscall 0x00#8]⟩ := by decide

/-! ## Assembler sources: the programs of 95_test_vectors.md with their encodings -/

/-- P2. -/
theorem test_assemble_P2 : assembleSource RoleTable.default
    [.ldi (.hex [1#4, 2#4]), .mov (.named .H) (.named .A), .ldi (.decimal [5, 2]), .mov (.named .L) (.named .A),
     .ldi (.hex [0xA#4, 0xB#4]), .mov .M (.named .A), .ldi (.decimal [0]), .mov (.named .A) .M,
     .sta (.number (.hex [2#4, 0#4, 0#4, 0#4])), .hlt] =
    some [0x43#8, 0x12#8, 0xE2#8, 0x43#8, 0x34#8, 0xE3#8, 0x43#8, 0xAB#8, 0xE5#8, 0x43#8, 0x00#8, 0xF4#8,
      0x04#8, 0x00#8, 0x20#8, 0xFF#8] := by decide

/-- P3, with a label on the byte it patches. -/
theorem test_assemble_P3 : assembleSource RoleTable.default
    [.ldi (.hex [0xF#4, 0xF#4]), .sta (.label "patch"), .inc, .label "patch", .nop, .ldi (.decimal [7]), .hlt] =
    some [0x43#8, 0xFF#8, 0x04#8, 0x06#8, 0x00#8, 0x95#8, 0x00#8, 0x43#8, 0x07#8, 0xFF#8] := by decide

/-- A number out of range, a label not set, a label set twice and `UNIMP` of INC's opcode are refused. -/
theorem test_assemble_refuses :
    assembleSource RoleTable.default [.ldi (.decimal [2, 5, 6])] = none ∧
    assembleSource RoleTable.default [.sta (.label "a")] = none ∧
    assembleSource RoleTable.default [.label "a", .label "a"] = none ∧
    assembleSource RoleTable.default [.unimp (.hex [9#4, 5#4])] = none := by decide

/-! ## The ingestion harness and the drivers: W9, V47, V42 -/

/-- The unbounded mode with the guard. -/
def guarded : State := { State.reset with params := { Params.default with ingestMode := .unbounded, guardEnabled := true } }

/-- The unbounded mode without the guard. -/
def unguarded : State := { State.reset with params := { Params.default with ingestMode := .unbounded } }

/-- `z^k`. -/
def zeros (k : Nat) : List Byte := List.replicate k 0x00#8

/-- V47a, V47b. -/
theorem test_ingest_bounded :
    (ingest [0xFF#8] State.reset).1 = .payload [0xFF#8] ∧
    (ingest (zeros 10) { State.reset with params := { Params.default with guardEnabled := true } }).1 =
      .payload (zeros 10) := by decide +kernel

/-- V47j and W9; V47h. -/
theorem test_ingest_guard_fails :
    (ingest (zeros 65) guarded).1 = .fatal [0x00#8, 0xBE#8, 0xAD#8, 0xDE#8] ∧
    (ingest (zeros 65) guarded).2.trace = [.guardFail [0x00#8, 0xBE#8, 0xAD#8, 0xDE#8]] ∧
    (ingest (zeros 64 ++ [0xEF#8, 0xBE#8, 0x00#8]) guarded).1 = .fatal [0xEF#8, 0xBE#8, 0x00#8, 0xDE#8] := by decide +kernel

/-- V47e, V47f, V47d. -/
theorem test_ingest_guard_passes :
    (ingest (zeros 64) guarded).1 = .payload (zeros 64) ∧
    (ingest (zeros 64 ++ [0xEF#8]) guarded).1 = .payload (zeros 64 ++ [0xEF#8]) ∧
    (ingest (zeros 70) unguarded).1 = .payload (zeros 70) := by decide +kernel

/-- On a process that has ended the self-test keeps the status (log 24). -/
theorem test_selfTest_ended :
    selfTest 2 { machine := State.reset, exit := some exitGuard } = { machine := State.reset, exit := some exitGuard } := rfl

/-- V42, V43 and W7: the self-test's two cycles. -/
theorem test_run :
    (run 0 (inject selfTestProgram State.reset)).outcome = .budgetExhausted ∧
    (run 1 (inject selfTestProgram State.reset)).outcome = .budgetExhausted ∧
    (run 2 (inject selfTestProgram State.reset)).outcome = .halted ∧
    (run 2 (inject selfTestProgram State.reset)).cycles = 2 ∧
    seen (run 2 (inject selfTestProgram State.reset)).state = ⟨0x02#8, 0x00#8, 0x0003, true, [.syscall 0x02#8]⟩ := by decide

/-! ## Witnesses: a state and operands that meet all the hypotheses of a statement, clause by clause -/

/-- RUNNING, with `pc` in bounds at the given opcode byte. -/
abbrev ReadyAt (op : Byte) (s : State) : Prop := s.halted = false ∧ s.pc < s.params.memSize ∧ s.mem.read s.pc = op

theorem test_witness_DecodeOfEncodeIsTheInstruction : (Instr.sta 0xFF#8 0x00#8).wellFormed = true := by decide

theorem test_witness_DecodedBytesAreTheEncoding :
    decode [0x43#8, 0xFF#8, 0x00#8] = .ok (.ldi 0xFF#8, [0x00#8]) ∧ decode [0x00#8] = .ok (.nop, []) := ⟨rfl, rfl⟩

theorem test_witness_DecodeFailsOnlyForMissingBytes :
    (∃ e, decode [] = .error e) ∧ (∃ e, decode [0x43#8] = .error e) ∧ (∃ e, decode [0x04#8, 0x34#8] = .error e) ∧
    [0x04#8, 0x34#8].length < (opcodeRow 0x04#8).length := ⟨⟨_, rfl⟩, ⟨_, rfl⟩, ⟨_, rfl⟩, by decide⟩

theorem test_witness_InstallOrderDoesNotChangeTheTable : installs.reverse.Perm installs := List.reverse_perm _

/-- Under the default table and under its mirror image. -/
theorem test_witness_DisassemblyAssemblesBack :
    RoleTable.default.wellFormed = true ∧
    disassemble RoleTable.default [0xE5#8, 0x00#8] = some (.mov .M (.named .A), [0x00#8]) ∧
    { b := .r4, c := .r3, h := .r2, l := .r1, a := .r0 : RoleTable }.wellFormed = true ∧
    disassemble { b := .r4, c := .r3, h := .r2, l := .r1, a := .r0 } [0xE5#8] = some (.mov .M (.named .B), []) := by
  decide

theorem test_witness_LabelStandsForTheNextByte :
    "b" ∉ (labelsFrom 0 [.label "a", .inc, .sta (.label "b")]).map Prod.fst ∧
    assembleSource RoleTable.default [.label "a", .inc, .sta (.label "b"), .label "b"] =
      some [0x95#8, 0x04#8, 0x04#8, 0x00#8] := by decide

/-- Missing bytes, and a step of a RUNNING state for the run loop. -/
theorem test_witness_disassembly_none_and_RunsCompose :
    disassemble RoleTable.default [] = none ∧ disassemble RoleTable.default [0x43#8] = none ∧
    disassemble RoleTable.default [0x04#8, 0x34#8] = none ∧
    disassemble RoleTable.default [0x04#8, 0x34#8, 0x12#8] = some (.sta 0x1234#16, []) ∧
    (start 0 [0x95#8] RegFile.zero 0x00#8).halted = false ∧
    step (start 0 [0x95#8] RegFile.zero 0x00#8) = .next (one (start 0 [0x95#8] RegFile.zero 0x00#8)) :=
  ⟨by decide, by decide, by decide, by decide, by decide, rfl⟩

/-- The last address in bounds and the first out of bounds, of both memories. -/
theorem test_witness_MemReadIsBoundsChecked :
    65535 < State.reset.params.memSize ∧ State.reset.params.memSize ≤ 65536 ∧
    1023 < (small State.reset).params.memSize ∧ (small State.reset).params.memSize ≤ 1024 := by decide

/-- Both policies at the top of the address space. -/
theorem test_witness_FetchAdvancesPc :
    (start 65535 [] RegFile.zero 0x00#8).params.pcOverflow = .wrap16 ∧
    (fetch8 (start 65535 [] RegFile.zero 0x00#8)).2.pc = 0 ∧
    (linear (start 65535 [] RegFile.zero 0x00#8)).params.pcOverflow = .linear ∧
    (fetch8 (linear (start 65535 [] RegFile.zero 0x00#8))).2.pc = 65536 := by decide

/-- NOP, and unimplemented opcodes beside every installed one. -/
theorem test_witness_NopAndUnimplementedChangeNothing :
    Instr.nop.opcode = 0x00#8 ∧
    [Instr.unimp01, .unimp03, .unimp05, .unimp42, .unimp44, .unimp94, .unimp96, .unimp9F, .unimpA6, .unimpF6, .unimpFE].all
      (fun i => decide (i.opcode ∉ [0x04#8, 0x43#8, 0x95#8, 0xFF#8] ∧
        ¬ (0xA ≤ (highNibble i.opcode).toNat ∧ (lowNibble i.opcode).toNat ≤ 0x5))) = true := by decide

theorem test_witness_MoveGroupFollowsItsSelectors :
    isMoveOpcode Instr.movBB.opcode = true ∧ isMoveOpcode Instr.movMB.opcode = true ∧
    isMoveOpcode Instr.movBM.opcode = true ∧ isMoveOpcode Instr.movMM.opcode = true := by decide

/-- An instruction that wraps around the top of memory, and one that ends at the last byte of a small memory. -/
theorem test_witness_StepRunsTheDecodedInstruction :
    (start 0xFFFE [0x04#8, 0x10#8, 0x20#8] (acc 0x5A#8) 0x00#8).halted = false ∧
    decode (codeBytes (start 0xFFFE [0x04#8, 0x10#8, 0x20#8] (acc 0x5A#8) 0x00#8) 3) = .ok (.sta 0x10#8 0x20#8, []) ∧
    (∀ k < 3, pcPlus Params.default 0xFFFE k < 65536) ∧
    (small (start 1022 [0x43#8, 0x07#8] RegFile.zero 0x00#8)).halted = false ∧
    decode (codeBytes (small (start 1022 [0x43#8, 0x07#8] RegFile.zero 0x00#8)) 3) = .ok (.ldi 0x07#8, [0x00#8]) ∧
    (∀ k < 2, pcPlus (small State.reset).params 1022 k < 1024) := ⟨rfl, rfl, by decide, rfl, rfl, by decide⟩

theorem test_witness_StepIsTheEngineStep : (stateE0 0xF5#8).halted = false := by decide

theorem test_witness_RunningStepsAndHaltedDoesNot :
    (start 0 [0x95#8] RegFile.zero 0x00#8).halted = false ∧
    { start 0 [0x95#8] RegFile.zero 0x00#8 with halted := true }.halted = true := by decide

theorem test_witness_NopAndUnimplementedStep :
    ReadyAt 0x00#8 (start 0xFFFF [0x00#8] RegFile.zero 0x00#8) ∧
    ReadyAt 0xA6#8 (start 0xFFFF [0xA6#8] RegFile.zero 0x00#8) ∧ isUnimplementedOpcode 0xA6#8 = true := by decide

theorem test_witness_OutOfBoundsFetchIsNop :
    { linear State.reset with pc := 0x10000 }.halted = false ∧ (linear State.reset).params.memSize ≤ 0x10000 ∧
    (small State.reset).params.memSize ≤ 1024 := by decide

/-- In bounds, and with the operand byte out of bounds. -/
theorem test_witness_LdiStep :
    ReadyAt 0x43#8 (start 0 [0x43#8, 0x80#8] RegFile.zero 0x00#8) ∧
    ReadyAt 0x43#8 (small (start 1023 [0x43#8] RegFile.zero 0x00#8)) := by decide

/-- In bounds, and with both operand bytes out of bounds. -/
theorem test_witness_StaStep :
    ReadyAt 0x04#8 (start 0 [0x04#8, 0x34#8, 0x12#8] (acc 0x2A#8) 0x00#8) ∧
    ReadyAt 0x04#8 (small (start 1023 [0x04#8] (acc 0x44#8) 0x00#8)) := by decide

theorem test_witness_HltStep_and_RunStopsAtHalt :
    ReadyAt 0xFF#8 (start 0xFFFF [0xFF#8] (acc 0x2A#8) 0x80#8) ∧
    (one (start 0xFFFF [0xFF#8] (acc 0x2A#8) 0x80#8)).halted = true := by decide

theorem test_witness_IncStep : ReadyAt 0x95#8 (start 0xFFFF [0x95#8] (acc 0xFF#8) 0x80#8) := by decide

/-- A step from a state with the invariant that stores a byte. -/
theorem test_witness_StepKeepsTheInvariant :
    MachineInv (stateE0 0xA5#8) ∧ step (stateE0 0xA5#8) = .next (one (stateE0 0xA5#8)) := ⟨by decide, rfl⟩

/-- Two out-of-bounds accesses in one step, a HLT, and a step that reports nothing. -/
theorem test_witness_StepHaltsExactlyWhenItReports :
    (small (start 0 [0xF5#8] { acc 0x99#8 with x2 := 0x04#8 } 0x00#8)).params.wellFormed = true ∧
    step (small (start 0 [0xF5#8] { acc 0x99#8 with x2 := 0x04#8 } 0x00#8)) =
      .next (one (small (start 0 [0xF5#8] { acc 0x99#8 with x2 := 0x04#8 } 0x00#8))) ∧
    (start 0 [0xFF#8] RegFile.zero 0x00#8).params.wellFormed = true ∧
    nextOpcode (start 0 [0xFF#8] RegFile.zero 0x00#8) = 0xFF#8 ∧
    step (start 0 [0xFF#8] RegFile.zero 0x00#8) = .next (one (start 0 [0xFF#8] RegFile.zero 0x00#8)) :=
  ⟨by decide, rfl, by decide, by decide, rfl⟩

theorem test_witness_SourceRunReportsOnlyItsHalt :
    SourceParams (start 0xFFFF [0x95#8] RegFile.zero 0x00#8).params ∧
    (start 0xFFFF [0x95#8] RegFile.zero 0x00#8).pc < 65536 ∧
    (start 0xFFFF [0x95#8] RegFile.zero 0x00#8).halted = false := by decide

theorem test_witness_StackPointerIsUnused :
    step (stateE0 0xA5#8) = .next (one (stateE0 0xA5#8)) ∧ (Process.start Params.default).machine.sp = 0x0000#16 :=
  ⟨rfl, rfl⟩

theorem test_witness_FlagsAreNeverRead :
    step { stateE0 0xE4#8 with flags := 0xC0#8 } = .next (one { stateE0 0xE4#8 with flags := 0xC0#8 }) := rfl

/-- A flag changed by INC, the accumulator changed by LDI, a register changed by a move. -/
theorem test_witness_RegistersAndFlagsChangeOnlyAsListed :
    step (start 0 [0x95#8] (acc 0x7F#8) 0x00#8) = .next (one (start 0 [0x95#8] (acc 0x7F#8) 0x00#8)) ∧
    (one (start 0 [0x95#8] (acc 0x7F#8) 0x00#8)).flags ≠ 0x00#8 ∧
    readReg .r4 (one (start 0 [0x43#8, 0x01#8] RegFile.zero 0x00#8)) ≠ 0x00#8 ∧
    readReg .r2 (one (stateE0 0xE2#8)) ≠ readReg .r2 (stateE0 0xE2#8) := ⟨rfl, by decide, by decide, by decide⟩

/-- V15's STA over the next opcode, also around the top of memory, and a move into M over the next opcode. -/
theorem test_witness_StoredByteIsTheNextOpcode :
    (start 0 [0x04#8, 0x03#8, 0x00#8] (acc 0x95#8) 0x00#8).halted = false ∧
    decode (codeBytes (start 0 [0x04#8, 0x03#8, 0x00#8] (acc 0x95#8) 0x00#8) 3) = .ok (.sta 0x03#8 0x00#8, []) ∧
    (∀ k ≤ 3, pcPlus Params.default 0 k < 65536) ∧ addr16 0x03#8 0x00#8 = pcPlus Params.default 0 3 ∧
    (∀ k ≤ 3, pcPlus Params.default 0xFFFD k < 65536) ∧ addr16 0x00#8 0x00#8 = pcPlus Params.default 0xFFFD 3 ∧
    (start 0 [0xE5#8] { acc 0x95#8 with x3 := 0x01#8 } 0x00#8).halted = false ∧
    decode (codeBytes (start 0 [0xE5#8] { acc 0x95#8 with x3 := 0x01#8 } 0x00#8) 3) = .ok (.movMA, [0x00#8, 0x00#8]) ∧
    isMoveOpcode Instr.movMA.opcode = true ∧ lowNibble Instr.movMA.opcode = 0x5#4 ∧
    selectorRole (highNibble Instr.movMA.opcode) = some (.reg .r4) ∧
    (pairValue (start 0 [0xE5#8] { acc 0x95#8 with x3 := 0x01#8 } 0x00#8)).toNat = pcPlus Params.default 0 1 :=
  ⟨rfl, rfl, by decide, by decide, by decide, by decide, rfl, rfl, by decide, by decide, by decide, by decide⟩

theorem test_witness_BoundedIngestTruncates_and_GuardHasNoEffectWhenBounded :
    State.reset.params.ingestMode = .bounded := by decide

theorem test_witness_GuardedIngest_and_FatalExactly :
    guarded.params.ingestMode = .unbounded ∧ guarded.params.guardEnabled = true ∧ guarded.params.guardOk = true ∧
    (zeros 64).length ≤ 64 := by decide

theorem test_witness_UnguardedIngestNeverFails :
    unguarded.params.ingestMode = .unbounded ∧ unguarded.params.guardEnabled = false := by decide

/-- A packet of 65 bytes is a guard failure of a listening process, with a packet after it. -/
theorem test_witness_OnlyGuardFailureEndsListening :
    ({ machine := guarded, exit := none } : Process).exit = none ∧ zeros 65 ≠ [] ∧
    (ingest (zeros 65) guarded).1 = .fatal [0x00#8, 0xBE#8, 0xAD#8, 0xDE#8] ∧
    (listenLoop 1 [zeros 65, [0xFF#8]] { machine := guarded, exit := none }).exit.isSome = true := by decide +kernel

theorem test_witness_PassedPacketIsRunFromReset :
    (Process.start Params.default).exit = none ∧ [0xFF#8] ≠ ([] : List Byte) ∧
    (ingest [0xFF#8] (Process.start Params.default).machine).1 = .payload [0xFF#8] := by decide +kernel

/-- Two machines of one configuration that differ in every other field. -/
theorem test_witness_RunsOfAProgramAreIsolated :
    (stateE0 0xF4#8).params = { State.reset with halted := true, trace := [.syscall 0x01#8] }.params := by decide

theorem test_witness_ListeningKeepsTheInvariant_and_SelfTest :
    (Process.start Params.default).machine.params.memSizeOk = true ∧ MachineInv (Process.start Params.default).machine ∧
    (Process.start (small State.reset).params).machine.params.memSizeOk = true ∧ 2 ≤ 2 ∧
    (Process.start Params.default).exit = none ∧
    { Process.start Params.default with exit := some .normal }.exit ≠ none := by decide

end Sys2Proof.Machine
end

/-! SUPPORT. The step, read as the spec's own engine: every instruction is the handler its opcode byte dispatches. -/

namespace Sys2Proof

/-! ## Opcode bytes -/

/-- What a cell of the opcode map must say of the byte it stands at: a one-byte instruction is encoded by that byte,
and the two longer formats stand at LDI's and at STA's opcode (30_encoding.md R71 to R74, R76). -/
def OpcodeRow.standsAt (op : Byte) : OpcodeRow → Bool
  | .f1 i => encode i == [op]
  | .fmov i => encode i == [op]
  | .fi8 => op == 0x43#8
  | .fa16 => op == 0x04#8

theorem opcodeRow_standsAt (op : Byte) : (opcodeRow op).standsAt op = true := by
  revert op
  decide +kernel

/-- The three forms of an opcode: one byte in all, LDI, STA. -/
theorem opcodeRow_cases (op : Byte) :
    (∃ i, (opcodeRow op = .f1 i ∨ opcodeRow op = .fmov i) ∧ encode i = [op]) ∨ op = 0x43#8 ∨ op = 0x04#8 := by
  have h := opcodeRow_standsAt op
  cases hrow : opcodeRow op with
  | f1 i => exact .inl ⟨i, .inl rfl, by simpa [hrow, OpcodeRow.standsAt] using h⟩
  | fmov i => exact .inl ⟨i, .inr rfl, by simpa [hrow, OpcodeRow.standsAt] using h⟩
  | fi8 => exact .inr (.inl (by simpa [hrow, OpcodeRow.standsAt] using h))
  | fa16 => exact .inr (.inr (by simpa [hrow, OpcodeRow.standsAt] using h))

/-! ## Decoding, form by form -/

theorem decode_oneByte {op : Byte} {i : Instr} (h : opcodeRow op = .f1 i ∨ opcodeRow op = .fmov i)
    (rest : List Byte) : decode (op :: rest) = .ok (i, rest) := by
  rcases h with h | h <;> simp [decode, h]

theorem decode_ldi (v : Byte) (rest : List Byte) : decode (0x43#8 :: v :: rest) = .ok (.ldi v, rest) := rfl

theorem decode_sta (lo hi : Byte) (rest : List Byte) :
    decode (0x04#8 :: lo :: hi :: rest) = .ok (.sta lo hi, rest) := rfl

end Sys2Proof

namespace Sys2Proof.Machine

/-! ## Fetching, form by form -/

theorem fetchInstr_oneByte {s : State} {i : Instr}
    (h : opcodeRow (fetch8 s).1 = .f1 i ∨ opcodeRow (fetch8 s).1 = .fmov i) :
    fetchInstr s = (i, (fetch8 s).2) := by
  rcases h with h | h <;> simp [fetchInstr, h]

theorem fetchInstr_ldi {s : State} (h : (fetch8 s).1 = 0x43#8) :
    fetchInstr s = (.ldi (fetch8 (fetch8 s).2).1, (fetch8 (fetch8 s).2).2) := by
  rw [fetchInstr, h]
  rfl

theorem fetchInstr_sta {s : State} (h : (fetch8 s).1 = 0x04#8) :
    fetchInstr s = (.sta (fetch8 (fetch8 s).2).1 (fetch8 (fetch8 (fetch8 s).2).2).1,
      (fetch8 (fetch8 (fetch8 s).2).2).2) := by
  rw [fetchInstr, h]
  rfl

/-! ## The dispatch table -/

/-- The table as a chain of tests, the last installation first (30_encoding.md R77). -/
theorem dispatchTable_eq (op : Byte) :
    dispatchTable op =
      if op == 0x95#8 then .aluGroup
      else if isMoveOpcode op then .moveGroup
      else if op == 0xFF#8 then .haltOnSyscall
      else if op == 0x04#8 then .storeAbsolute
      else if op == 0x43#8 then .loadImmediate
      else if op == 0x00#8 then .noOp
      else .unimplemented := rfl

theorem eq_of_dispatch_loadImmediate {op : Byte} (h : dispatchTable op = .loadImmediate) : op = 0x43#8 := by
  rw [dispatchTable_eq] at h
  grind

theorem eq_of_dispatch_aluGroup {op : Byte} (h : dispatchTable op = .aluGroup) : op = 0x95#8 := by
  rw [dispatchTable_eq] at h
  grind

theorem isMoveOpcode_of_dispatch {op : Byte} (h : dispatchTable op = .moveGroup) : isMoveOpcode op = true := by
  rw [dispatchTable_eq] at h
  grind

/-- How many operand bytes a handler fetches (40_engine.md R103, R104). -/
def Handler.operandBytes : Handler → Nat
  | .loadImmediate => 1
  | .storeAbsolute => 2
  | _ => 0

/-- The opcode's length counts the opcode byte and the operand bytes its handler fetches (30_encoding.md R70). -/
theorem length_opcodeRow (op : Byte) : (opcodeRow op).length = (dispatchTable op).operandBytes + 1 := by
  revert op
  decide +kernel

/-! ## The step is its handler -/

/-- A one-byte instruction does what the handler of its opcode does; the handler reads no operand. -/
theorem exec_eq_runHandler {i : Instr} {op : Byte} (h : encode i = [op]) (s : State) :
    exec i s = .next (runHandler (dispatchTable op) op s) := by
  cases i
  case ldi v => simp [encode] at h
  case sta lo hi => simp [encode] at h
  all_goals
    obtain rfl : _ = op := List.singleton_inj.mp h
    rfl

theorem step_of_halted {s : State} (h : s.halted = true) : step s = .fault .halted := if_pos h

theorem step_of_running {s : State} (h : s.halted = false) : step s = exec (fetchInstr s).1 (fetchInstr s).2 :=
  if_neg (by simp [h])

/-- A RUNNING machine's step fetches the opcode byte and runs the handler dispatched at it (40_engine.md R101). -/
theorem step_eq_engineStep {s : State} (h : s.halted = false) : step s = .next (engineStep s) := by
  rw [step_of_running h, engineStep]
  rcases opcodeRow_cases (fetch8 s).1 with ⟨i, hrow, henc⟩ | hop | hop
  · rw [fetchInstr_oneByte hrow]
    exact exec_eq_runHandler henc _
  · rw [fetchInstr_ldi hop, hop]
    rfl
  · rw [fetchInstr_sta hop, hop]
    rfl

theorem step_eq_next_iff {s t : State} : step s = .next t ↔ s.halted = false ∧ t = engineStep s := by
  cases h : s.halted with
  | true => simp [step_of_halted h]
  | false => simp [step_eq_engineStep h, eq_comm]

end Sys2Proof.Machine

/-! SUPPORT. The primitives over registers, flags and the fetch, and the instruction at `pc`. -/

namespace Sys2Proof.Machine

/-! ## The primitives -/

/-- Settles O9: the laws of `setBit` at the two bits, and bits 5 to 0 under their mask. -/
theorem setFlagsWritesZAndNOnly : Obligations.SetFlagsWritesZAndNOnly :=
  fun v s => ⟨⟨flagZ_setFlags v s, flagN_setFlags v s, setFlags_low v s⟩, rfl⟩

theorem toNat_concat16 (hi lo : Byte) : (concat16 hi lo).toNat = hi.toNat * 256 + lo.toNat := by
  rw [concat16, BitVec.toNat_append, ← Nat.shiftLeft_add_eq_or_of_lt lo.isLt, Nat.shiftLeft_eq]

/-- Settles O12: the pair is a concatenation of two bytes. -/
theorem pairValueIsHighThenLow : Obligations.PairValueIsHighThenLow :=
  fun _ => toNat_concat16 _ _

/-- The byte `Fetch8()` gives: that of an operand read at `pc`. -/
theorem fetch8_fst (s : State) : (fetch8 s).1 = operandAt s s.pc := by
  unfold operandAt
  split
  case isTrue h => rw [fetch8_inBounds h]
  case isFalse h => rw [fetch8_outOfBounds h]

theorem fetch8_reports (s : State) : Reports (readReports s s.pc) s (fetch8 s).2 := by
  unfold readReports
  split
  case isTrue h => simp [Reports, fetch8_inBounds h]
  case isFalse h => simp [Reports, fetch8_outOfBounds h]

/-- Settles O13, field by field of the state after the fetch. -/
theorem fetchAdvancesPc : Obligations.FetchAdvancesPc := by
  intro s
  refine ⟨fetch8_fst s, fun h => ?_, fun h => ?_, fetch8_reports s, fun r _ => ?_, fun a _ => ?_,
    fetch8_sp s, fetch8_flags s, fetch8_params s⟩
  · rw [fetch8_pc, pcAfter_wrap16 h]
  · rw [fetch8_pc, pcAfter_linear h]
  · exact readReg_congr (fetch8_regs s) r
  · rw [fetch8_mem]

/-- Settles O43: an empty memory and the zero registers read as zero. -/
theorem resetStateIsAllZero : Obligations.ResetStateIsAllZero :=
  ⟨Memory.read_nil, RegFile.get_zero, reset_pc, reset_sp, reset_flags, rfl, rfl, reset_halted⟩

/-! ## The instruction stream -/

theorem pcPlus_pcAfter (p : Params) (pc k : Nat) : pcPlus p (pcAfter p pc) k = pcPlus p pc (k + 1) := by
  induction k with
  | zero => rfl
  | succ k ih => exact congrArg (pcAfter p) ih

theorem codeBytes_three (s : State) :
    codeBytes s 3 = [s.mem.read s.pc, s.mem.read (pcPlus s.params s.pc 1), s.mem.read (pcPlus s.params s.pc 2)] := rfl

/-- A fetch whose byte exists gives that byte and moves `pc` past it. -/
theorem fetch8_at {s : State} {k : Nat} (h : pcPlus s.params s.pc k < s.params.memSize) :
    fetch8 { s with pc := pcPlus s.params s.pc k } =
      (s.mem.read (pcPlus s.params s.pc k), { s with pc := pcPlus s.params s.pc (k + 1) }) :=
  fetch8_inBounds (s := { s with pc := pcPlus s.params s.pc k }) h

/-- Where the bytes of the instruction exist, the fetch is the decoding of the bytes at `pc` (R28, R103). -/
theorem fetchInstr_of_decode {s : State} {i : Instr} {rest : List Byte}
    (hdec : decode (codeBytes s 3) = .ok (i, rest))
    (hin : ∀ k < (encode i).length, pcPlus s.params s.pc k < s.params.memSize) :
    fetchInstr s = (i, { s with pc := pcPlus s.params s.pc (encode i).length }) := by
  rw [codeBytes_three] at hdec
  rcases opcodeRow_cases (s.mem.read s.pc) with ⟨j, hrow, henc⟩ | hop | hop
  · rw [decode_oneByte hrow] at hdec
    obtain ⟨rfl, rfl⟩ := Prod.mk.inj (Except.ok.inj hdec)
    have h0 : fetch8 s = _ := fetch8_at (k := 0) (hin 0 (by simp [henc]))
    rw [fetchInstr_oneByte (by rwa [h0]), h0, henc]
    rfl
  · rw [hop, decode_ldi] at hdec
    obtain ⟨rfl, rfl⟩ := Prod.mk.inj (Except.ok.inj hdec)
    have h0 : fetch8 s = _ := fetch8_at (k := 0) (hin 0 (by simp [encode]))
    have h1 := fetch8_at (hin 1 (by simp [encode]))
    rw [fetchInstr_ldi (by rwa [h0]), h0, h1]
    rfl
  · rw [hop, decode_sta] at hdec
    obtain ⟨rfl, rfl⟩ := Prod.mk.inj (Except.ok.inj hdec)
    have h0 : fetch8 s = _ := fetch8_at (k := 0) (hin 0 (by simp [encode]))
    have h1 := fetch8_at (hin 1 (by simp [encode]))
    have h2 := fetch8_at (hin 2 (by simp [encode]))
    rw [fetchInstr_sta (by rwa [h0]), h0, h1, h2]
    rfl

/-- Settles O23: where its bytes exist, the fetched instruction is the decoded one. -/
theorem stepRunsTheDecodedInstruction : Obligations.StepRunsTheDecodedInstruction := by
  intro s i rest hrun hdec hin
  rw [step_of_running hrun, fetchInstr_of_decode hdec hin]

end Sys2Proof.Machine

/-! SUPPORT. Frames: what each handler, and so a step, does to `pc`, the flags and the registers. -/

namespace Sys2Proof.Machine

/-! ## The handlers' frames -/

@[simp] theorem readRole_pc (r : Role) (s : State) : (readRole r s).2.pc = s.pc := by cases r <;> simp
@[simp] theorem readRole_regs (r : Role) (s : State) : (readRole r s).2.regs = s.regs := by cases r <;> simp
@[simp] theorem readRole_flags (r : Role) (s : State) : (readRole r s).2.flags = s.flags := by cases r <;> simp
@[simp] theorem writeRole_pc (r : Role) (v : Byte) (s : State) : (writeRole r v s).pc = s.pc := by cases r <;> simp
@[simp] theorem writeRole_flags (r : Role) (v : Byte) (s : State) : (writeRole r v s).flags = s.flags := by
  cases r <;> simp

theorem readReg_writeRole_other {r : Reg} {dst : Role} (h : dst ≠ .reg r) (v : Byte) (s : State) :
    readReg r (writeRole dst v s) = readReg r s := by
  cases dst with
  | reg d => exact readReg_writeReg_other v s fun e => h (congrArg Role.reg e.symm)
  | m => exact readReg_congr (memWrite_regs _ v s) r

@[simp] theorem move_pc (dst src : Role) (s : State) : (move dst src s).pc = s.pc := by simp [move]
@[simp] theorem move_flags (dst src : Role) (s : State) : (move dst src s).flags = s.flags := by simp [move]

theorem readReg_move_other {r : Reg} {dst : Role} (h : dst ≠ .reg r) (src : Role) (s : State) :
    readReg r (move dst src s) = readReg r s := by
  rw [move, readReg_writeRole_other h]
  exact readReg_congr (readRole_regs src s) r

@[simp] theorem moveHandler_pc (op : Byte) (s : State) : (moveHandler op s).pc = s.pc := by
  unfold moveHandler
  split <;> simp

@[simp] theorem moveHandler_flags (op : Byte) (s : State) : (moveHandler op s).flags = s.flags := by
  unfold moveHandler
  split <;> simp

theorem readReg_moveHandler_other {op : Byte} {r : Reg} (h : selectorRole (lowNibble op) ≠ some (.reg r))
    (s : State) : readReg r (moveHandler op s) = readReg r s := by
  unfold moveHandler
  split
  case h_1 dst _ hdst => exact readReg_move_other (fun e => h (hdst.trans (congrArg some e))) _ s
  case h_2 => rfl

@[simp] theorem storeAbsolute_pc (lo hi : Byte) (s : State) : (storeAbsolute lo hi s).pc = s.pc := memWrite_pc _ _ s
@[simp] theorem storeAbsolute_flags (lo hi : Byte) (s : State) : (storeAbsolute lo hi s).flags = s.flags :=
  memWrite_flags _ _ s
@[simp] theorem storeAbsolute_regs (lo hi : Byte) (s : State) : (storeAbsolute lo hi s).regs = s.regs :=
  memWrite_regs _ _ s

/-- The accumulator is the only register that LDI and INC write. -/
theorem readReg_setFlags_writeAcc {r : Reg} {s : State} (h : r ≠ s.params.roleTable.a) (u v : Byte) :
    readReg r (setFlags u (writeAcc v s)) = readReg r s :=
  readReg_writeReg_other v s h

/-! ## A handler's `pc`, flags and registers -/

theorem runHandler_pc (hd : Handler) (op : Byte) (s : State) :
    (runHandler hd op s).pc = pcPlus s.params s.pc hd.operandBytes := by
  cases hd with
  | loadImmediate => exact fetch8_pc s
  | storeAbsolute => simp [runHandler, Handler.operandBytes, pcPlus]
  | moveGroup => exact moveHandler_pc op s
  | unimplemented | noOp | haltOnSyscall | aluGroup => rfl

theorem runHandler_flags {hd : Handler} (hl : hd ≠ .loadImmediate) (ha : hd ≠ .aluGroup) (op : Byte) (s : State) :
    (runHandler hd op s).flags = s.flags := by
  cases hd with
  | loadImmediate => exact absurd rfl hl
  | aluGroup => exact absurd rfl ha
  | storeAbsolute => simp [runHandler]
  | moveGroup => exact moveHandler_flags op s
  | unimplemented | noOp | haltOnSyscall => rfl

/-- A register that a handler changes is the accumulator, at LDI or INC, or the destination of a move. -/
theorem changed_of_runHandler {hd : Handler} {op : Byte} {s : State} {r : Reg}
    (h : readReg r (runHandler hd op s) ≠ readReg r s) :
    (r = s.params.roleTable.a ∧ (hd = .loadImmediate ∨ hd = .aluGroup)) ∨
    (hd = .moveGroup ∧ selectorRole (lowNibble op) = some (.reg r)) := by
  cases hd with
  | loadImmediate =>
    refine .inl ⟨by_contra fun hr => h ?_, .inl rfl⟩
    exact (readReg_setFlags_writeAcc (by rwa [fetch8_params]) _ _).trans (readReg_congr (fetch8_regs s) r)
  | aluGroup => exact .inl ⟨by_contra fun hr => h (readReg_setFlags_writeAcc hr _ _), .inr rfl⟩
  | moveGroup => exact .inr ⟨rfl, by_contra fun hr => h (readReg_moveHandler_other hr s)⟩
  | storeAbsolute => exact absurd (readReg_congr (by simp [runHandler]) r) h
  | unimplemented | noOp | haltOnSyscall => exact absurd rfl h

/-! ## A step's `pc`, flags and registers -/

theorem engineStep_pc (s : State) :
    (engineStep s).pc = pcPlus s.params s.pc (opcodeRow (nextOpcode s)).length := by
  rw [engineStep, runHandler_pc, fetch8_params, fetch8_pc, pcPlus_pcAfter, length_opcodeRow]
  rfl

theorem engineStep_flags {s : State} (h : (engineStep s).flags ≠ s.flags) :
    nextOpcode s = 0x43#8 ∨ nextOpcode s = 0x95#8 := by
  by_contra hop
  obtain ⟨hl, ha⟩ := not_or.mp hop
  exact h ((runHandler_flags (mt eq_of_dispatch_loadImmediate hl) (mt eq_of_dispatch_aluGroup ha) _ _).trans
    (fetch8_flags s))

theorem changed_of_engineStep {s : State} {r : Reg} (h : readReg r (engineStep s) ≠ readReg r s) :
    (r = s.params.roleTable.a ∧ (nextOpcode s = 0x43#8 ∨ nextOpcode s = 0x95#8)) ∨
    (isMoveOpcode (nextOpcode s) = true ∧ selectorRole (lowNibble (nextOpcode s)) = some (.reg r)) := by
  rw [← readReg_congr (fetch8_regs s) r] at h
  rcases changed_of_runHandler h with ⟨hr, hd⟩ | ⟨hd, hsel⟩
  · rw [fetch8_params] at hr
    exact .inl ⟨hr, hd.imp eq_of_dispatch_loadImmediate eq_of_dispatch_aluGroup⟩
  · exact .inr ⟨isMoveOpcode_of_dispatch hd, hsel⟩

/-- Settles O38: the step is its handler, and each handler's `pc`, flags and registers are known. -/
theorem registersAndFlagsChangeOnlyAsListed : Obligations.RegistersAndFlagsChangeOnlyAsListed := by
  intro s t hs
  obtain ⟨-, rfl⟩ := step_eq_next_iff.mp hs
  exact ⟨engineStep_pc s, engineStep_flags, fun _ => changed_of_engineStep⟩

end Sys2Proof.Machine

/-! SUPPORT. What every step keeps, reduced to the five primitive updates a step is made of: a relation between two
machines, or a property of one, that each primitive keeps is kept by the step. -/

namespace Sys2Proof.Machine

/-! ## Relations that two machines keep in lockstep -/

/-- A relation whose two machines have the same memory, registers, `pc`, `halted` and configuration, and that every primitive
update keeps when it is made on both sides. -/
structure Lockstep (R : State → State → Prop) : Prop where
  agree {s s' : State} : R s s' →
    s'.mem = s.mem ∧ s'.regs = s.regs ∧ s'.pc = s.pc ∧ s'.halted = s.halted ∧ s'.params = s.params
  keepsWriteReg {s s' : State} (r : Reg) (v : Byte) : R s s' → R (writeReg r v s) (writeReg r v s')
  keepsSetFlags {s s' : State} (v : Byte) : R s s' → R (setFlags v s) (setFlags v s')
  keepsRaiseHalt {s s' : State} (e : Event) : R s s' → R (raiseHalt e s) (raiseHalt e s')
  keepsAdvancePc {s s' : State} : R s s' → R (advancePc s) (advancePc s')
  keepsStore {s s' : State} (a : Nat) (v : Byte) : a < s.params.memSize → R s s' →
    R { s with mem := s.mem.write a v } { s' with mem := s'.mem.write a v }

namespace Lockstep

variable {R : State → State → Prop} {s s' : State}

theorem pairValue_eq (L : Lockstep R) (h : R s s') : pairValue s' = pairValue s := by
  obtain ⟨-, hregs, -, -, hparams⟩ := L.agree h
  exact pairValue_congr hregs hparams

theorem readAcc_eq (L : Lockstep R) (h : R s s') : readAcc s' = readAcc s := by
  obtain ⟨-, hregs, -, -, hparams⟩ := L.agree h
  exact readAcc_congr hregs hparams

theorem readReg_eq (L : Lockstep R) (h : R s s') (r : Reg) : readReg r s' = readReg r s := by
  obtain ⟨-, hregs, -⟩ := L.agree h
  exact readReg_congr hregs r

theorem keepsWriteAcc (L : Lockstep R) (v : Byte) (h : R s s') : R (writeAcc v s) (writeAcc v s') := by
  obtain ⟨-, -, -, -, hparams⟩ := L.agree h
  rw [writeAcc, writeAcc, hparams]
  exact L.keepsWriteReg _ v h

theorem keepsMemRead (L : Lockstep R) (a : Nat) (h : R s s') :
    (memRead a s').1 = (memRead a s).1 ∧ R (memRead a s).2 (memRead a s').2 := by
  obtain ⟨hmem, -, -, -, hparams⟩ := L.agree h
  rcases memRead_cases a s with ⟨ha, e⟩ | ⟨ha, e⟩
  · rw [e, memRead_inBounds (by rwa [hparams]), hmem]
    exact ⟨rfl, h⟩
  · rw [e, memRead_outOfBounds (by rw [hparams]; omega)]
    exact ⟨rfl, L.keepsRaiseHalt _ h⟩

theorem keepsMemWrite (L : Lockstep R) (a : Nat) (v : Byte) (h : R s s') :
    R (memWrite a v s) (memWrite a v s') := by
  obtain ⟨-, -, -, -, hparams⟩ := L.agree h
  rcases memWrite_cases a v s with ⟨ha, e⟩ | ⟨ha, e⟩
  · rw [e, memWrite_inBounds v (by rwa [hparams])]
    exact L.keepsStore a v ha h
  · rw [e, memWrite_outOfBounds v (by rw [hparams]; omega)]
    exact L.keepsRaiseHalt _ h

theorem keepsFetch8 (L : Lockstep R) (h : R s s') :
    (fetch8 s').1 = (fetch8 s).1 ∧ R (fetch8 s).2 (fetch8 s').2 := by
  obtain ⟨-, -, hpc, -⟩ := L.agree h
  obtain ⟨hval, hread⟩ := L.keepsMemRead s.pc h
  rw [fetch8, fetch8, hpc]
  exact ⟨hval, L.keepsAdvancePc hread⟩

theorem keepsReadRole (L : Lockstep R) (r : Role) (h : R s s') :
    (readRole r s').1 = (readRole r s).1 ∧ R (readRole r s).2 (readRole r s').2 := by
  cases r with
  | reg r => exact ⟨L.readReg_eq h r, h⟩
  | m =>
    rw [readRole_m, readRole_m, L.pairValue_eq h]
    exact L.keepsMemRead _ h

theorem keepsWriteRole (L : Lockstep R) (r : Role) (v : Byte) (h : R s s') :
    R (writeRole r v s) (writeRole r v s') := by
  cases r with
  | reg r => exact L.keepsWriteReg r v h
  | m =>
    rw [writeRole_m, writeRole_m, L.pairValue_eq h]
    exact L.keepsMemWrite _ v h

theorem keepsMove (L : Lockstep R) (dst src : Role) (h : R s s') : R (move dst src s) (move dst src s') := by
  obtain ⟨hval, hread⟩ := L.keepsReadRole src h
  rw [move, move, hval]
  exact L.keepsWriteRole dst _ hread

theorem keepsMoveHandler (L : Lockstep R) (op : Byte) (h : R s s') : R (moveHandler op s) (moveHandler op s') := by
  unfold moveHandler
  split
  · exact L.keepsMove _ _ h
  · exact h

theorem keepsLoadImmediate (L : Lockstep R) (v : Byte) (h : R s s') :
    R (loadImmediate v s) (loadImmediate v s') :=
  L.keepsSetFlags v (L.keepsWriteAcc v h)

theorem keepsIncrement (L : Lockstep R) (h : R s s') : R (increment s) (increment s') := by
  rw [increment, increment, L.readAcc_eq h]
  exact L.keepsSetFlags _ (L.keepsWriteAcc _ h)

theorem keepsStoreAbsolute (L : Lockstep R) (lo hi : Byte) (h : R s s') :
    R (storeAbsolute lo hi s) (storeAbsolute lo hi s') := by
  rw [storeAbsolute, storeAbsolute, L.readAcc_eq h]
  exact L.keepsMemWrite _ _ h

theorem keepsHaltOnSyscall (L : Lockstep R) (h : R s s') : R (haltOnSyscall s) (haltOnSyscall s') := by
  rw [haltOnSyscall, haltOnSyscall, L.readAcc_eq h]
  exact L.keepsRaiseHalt _ h

theorem keepsRunHandler (L : Lockstep R) (hd : Handler) (op : Byte) (h : R s s') :
    R (runHandler hd op s) (runHandler hd op s') := by
  obtain ⟨hv, h1⟩ := L.keepsFetch8 h
  cases hd with
  | unimplemented => exact h
  | noOp => exact h
  | loadImmediate =>
    simp only [runHandler, hv]
    exact L.keepsLoadImmediate _ h1
  | storeAbsolute =>
    obtain ⟨hw, h2⟩ := L.keepsFetch8 h1
    simp only [runHandler, hv, hw]
    exact L.keepsStoreAbsolute _ _ h2
  | haltOnSyscall => exact L.keepsHaltOnSyscall h
  | moveGroup => exact L.keepsMoveHandler op h
  | aluGroup => exact L.keepsIncrement h

theorem keepsEngineStep (L : Lockstep R) (h : R s s') : R (engineStep s) (engineStep s') := by
  obtain ⟨hop, h1⟩ := L.keepsFetch8 h
  simp only [engineStep, hop]
  exact L.keepsRunHandler _ _ h1

/-- Of two related machines, if one takes its step so does the other, and they are related again. -/
theorem keepsStep (L : Lockstep R) {t : State} (h : R s s') (hs : step s = .next t) :
    ∃ t', step s' = .next t' ∧ R t t' := by
  obtain ⟨-, -, -, hhalted, -⟩ := L.agree h
  obtain ⟨hrun, rfl⟩ := step_eq_next_iff.mp hs
  exact ⟨engineStep s', step_eq_engineStep (hhalted.trans hrun), L.keepsEngineStep h⟩

end Lockstep

/-! ## Properties of one machine -/

/-- A property of a state that every primitive update keeps. -/
structure KeptByPrimitives (P : State → Prop) : Prop where
  keepsWriteReg {s : State} (r : Reg) (v : Byte) : P s → P (writeReg r v s)
  keepsSetFlags {s : State} (v : Byte) : P s → P (setFlags v s)
  keepsRaiseHalt {s : State} (e : Event) : P s → P (raiseHalt e s)
  keepsAdvancePc {s : State} : P s → P (advancePc s)
  keepsStore {s : State} (a : Nat) (v : Byte) : a < s.params.memSize → P s → P { s with mem := s.mem.write a v }

/-- A machine beside itself: a property that the primitives keep is a relation kept in lockstep. -/
theorem KeptByPrimitives.lockstep {P : State → Prop} (K : KeptByPrimitives P) :
    Lockstep fun s s' => s' = s ∧ P s where
  agree := by rintro s _ ⟨rfl, -⟩; exact ⟨rfl, rfl, rfl, rfl, rfl⟩
  keepsWriteReg r v := by rintro ⟨rfl, h⟩; exact ⟨rfl, K.keepsWriteReg r v h⟩
  keepsSetFlags v := by rintro ⟨rfl, h⟩; exact ⟨rfl, K.keepsSetFlags v h⟩
  keepsRaiseHalt e := by rintro ⟨rfl, h⟩; exact ⟨rfl, K.keepsRaiseHalt e h⟩
  keepsAdvancePc := by rintro s _ ⟨rfl, h⟩; exact ⟨rfl, K.keepsAdvancePc h⟩
  keepsStore a v ha := by rintro ⟨rfl, h⟩; exact ⟨rfl, K.keepsStore a v ha h⟩

/-- A property that every primitive update keeps is kept by every step. -/
theorem KeptByPrimitives.keepsStep {P : State → Prop} (K : KeptByPrimitives P) {s t : State} (h : P s)
    (hs : step s = .next t) : P t := by
  obtain ⟨_, -, -, ht⟩ := K.lockstep.keepsStep ⟨rfl, h⟩ hs
  exact ht

/-! ## The machine's invariant -/

theorem machineInv_keptByPrimitives : KeptByPrimitives MachineInv where
  keepsWriteReg _ _ h := h
  keepsSetFlags {s} v := by
    rintro ⟨hmem, hpc, hflags, hsp⟩
    exact ⟨hmem, hpc, (setFlags_low v s).trans hflags, hsp⟩
  keepsRaiseHalt _ h := h
  keepsAdvancePc {s} := by
    rintro ⟨hmem, -, hflags, hsp⟩
    refine ⟨hmem, fun hwrap => ?_, hflags, hsp⟩
    rw [advancePc_pc, pcAfter_wrap16 (p := s.params) hwrap]
    omega
  keepsStore a v ha := by
    rintro ⟨⟨hwf, hwithin⟩, hrest⟩
    exact ⟨⟨Memory.write_wf a v hwf, Memory.write_within v hwithin ha⟩, hrest⟩

/-- Settles O32: each of the five primitive updates keeps the invariant. -/
theorem stepKeepsTheInvariant : Obligations.StepKeepsTheInvariant :=
  fun _ _ h hs => machineInv_keptByPrimitives.keepsStep h hs

/-- Settles O33: the reset memory is empty and every other field is zero. -/
theorem resetHasTheInvariant : Obligations.ResetHasTheInvariant :=
  ⟨⟨⟨.nil, by simp⟩, by simp⟩, fun _ => by simp, by simp [FlagsOk], reset_sp⟩

/-! ## The flags and `sp` are in nobody's way -/

theorem lockstep_flags : Lockstep fun s s' => ∃ f, s' = { s with flags := f } where
  agree := by rintro s _ ⟨f, rfl⟩; exact ⟨rfl, rfl, rfl, rfl, rfl⟩
  keepsWriteReg r v := by rintro ⟨f, rfl⟩; exact ⟨f, rfl⟩
  keepsSetFlags {s _} v := by rintro ⟨f, rfl⟩; exact ⟨(setFlags v { s with flags := f }).flags, rfl⟩
  keepsRaiseHalt e := by rintro ⟨f, rfl⟩; exact ⟨f, rfl⟩
  keepsAdvancePc := by rintro s _ ⟨f, rfl⟩; exact ⟨f, rfl⟩
  keepsStore a v _ := by rintro ⟨f, rfl⟩; exact ⟨f, rfl⟩

theorem lockstep_sp (w : Word16) : Lockstep fun s s' => s' = { s with sp := w } where
  agree := by rintro s _ rfl; exact ⟨rfl, rfl, rfl, rfl, rfl⟩
  keepsWriteReg r v := by rintro rfl; rfl
  keepsSetFlags v := by rintro rfl; rfl
  keepsRaiseHalt e := by rintro rfl; rfl
  keepsAdvancePc := by rintro s _ rfl; rfl
  keepsStore a v _ := by rintro rfl; rfl

theorem sp_keptByPrimitives (w : Word16) : KeptByPrimitives fun s => s.sp = w where
  keepsWriteReg _ _ h := h
  keepsSetFlags _ h := h
  keepsRaiseHalt _ h := h
  keepsAdvancePc h := h
  keepsStore _ _ _ h := h

/-- Settles O37: machines that differ in the flags only run in lockstep. -/
theorem flagsAreNeverRead : Obligations.FlagsAreNeverRead := by
  intro s t f hs
  obtain ⟨t', hs', f', rfl⟩ := lockstep_flags.keepsStep ⟨f, rfl⟩ hs
  exact ⟨_, hs', rfl⟩

end Sys2Proof.Machine

/-! SUPPORT. What the run loop, the self-test and the listening loop keep. -/

namespace Sys2Proof.Machine

/-! ## What the drivers keep -/

/-- A property of a state that a step keeps, that a report keeps, and that reset and the injection of a payload keep.
No payload is longer than 1024 bytes (44_ingestion_harness.md R202, R203). -/
structure KeptByDrivers (P : State → Prop) : Prop where
  keepsStep {s t : State} : P s → step s = .next t → P t
  keepsReport {s : State} (e : Event) : P s → P (report e s)
  keepsLoad {s : State} (q : List Byte) : q.length ≤ 1024 → P s → P (inject q (resetMachine s))

theorem length_ingestBounded_le (init : Nat → Byte) (p : List Byte) : (ingestBounded init p).length ≤ 1024 :=
  (List.length_take_le _ _).trans (Nat.min_le_right _ _)

theorem length_received_le (p : List Byte) : (received p).length ≤ 1024 := List.length_take_le _ _

/-- Everything ingestion can do: hand on a payload of at most 1024 bytes, or report the guard failure
(44_ingestion_harness.md R200, R207). -/
theorem ingest_cases (p : List Byte) (s : State) :
    (∃ q, q.length ≤ 1024 ∧ ingest p s = (.payload q, s)) ∨
    ∃ g, ingest p s = (.fatal g, report (.guardFail g) s) := by
  unfold ingest ingestWith
  split
  · exact .inl ⟨_, length_ingestBounded_le _ _, rfl⟩
  · dsimp only
    split
    · exact .inr ⟨_, rfl⟩
    · exact .inl ⟨_, (List.length_take_le _ _).trans (length_received_le p), rfl⟩

theorem stepState_of_running {s : State} (h : s.halted = false) : stepState s = engineStep s := by
  simp [stepState, step_eq_engineStep h]

namespace KeptByDrivers

variable {P : State → Prop} {s : State}

theorem keepsRun (K : KeptByDrivers P) (n : Nat) (h : P s) : P (run n s).state := by
  induction n generalizing s with
  | zero => exact h
  | succ n ih =>
    unfold run
    split
    case isTrue => exact h
    case isFalse hrun =>
      have hrun : s.halted = false := by simpa using hrun
      rw [stepState_of_running hrun]
      exact ih (K.keepsStep h (step_eq_engineStep hrun))

theorem keepsRunProgram (K : KeptByDrivers P) (budget : Nat) {q : List Byte} (hq : q.length ≤ 1024) (h : P s) :
    P (runProgram budget q s).state :=
  K.keepsRun budget (K.keepsLoad q hq h)

theorem keepsReceivePacket (K : KeptByDrivers P) (budget : Nat) (p : List Byte) {pr : Process} (h : P pr.machine) :
    P (receivePacket budget p pr).machine := by
  unfold receivePacket
  split
  · exact h
  split
  · exact h
  rcases ingest_cases p pr.machine with ⟨q, hq, e⟩ | ⟨g, e⟩ <;> rw [e]
  · exact K.keepsRunProgram budget hq h
  · exact K.keepsReport _ h

theorem keepsListenLoop (K : KeptByDrivers P) (budget : Nat) (ps : List (List Byte)) {pr : Process}
    (h : P pr.machine) : P (listenLoop budget ps pr).machine := by
  induction ps generalizing pr with
  | nil => exact h
  | cons p ps ih => exact ih (K.keepsReceivePacket budget p h)

theorem keepsSelfTest (K : KeptByDrivers P) (budget : Nat) {pr : Process} (h : P pr.machine) :
    P (selfTest budget pr).machine := by
  unfold selfTest
  split
  · exact h
  · exact K.keepsRunProgram budget (by decide) h

end KeptByDrivers

theorem spOk_keptByDrivers : KeptByDrivers SpOk where
  keepsStep := (sp_keptByPrimitives _).keepsStep
  keepsReport _ h := h
  keepsLoad _ _ _ := rfl

/-- The configuration `p` and the trace so far, `es` (00_scope.md R38, 10_state.md R42). -/
def ConfigAndTrace (p : Params) (es : List Event) (s : State) : Prop := s.params = p ∧ es <+: s.trace

theorem configAndTrace_keptByPrimitives (p : Params) (es : List Event) :
    KeptByPrimitives (ConfigAndTrace p es) where
  keepsWriteReg _ _ h := h
  keepsSetFlags _ h := h
  keepsRaiseHalt e := fun ⟨hparams, htrace⟩ => ⟨hparams, htrace.trans (List.prefix_append _ [e])⟩
  keepsAdvancePc h := h
  keepsStore _ _ _ h := h

theorem configAndTrace_keptByDrivers (p : Params) (es : List Event) : KeptByDrivers (ConfigAndTrace p es) where
  keepsStep := (configAndTrace_keptByPrimitives p es).keepsStep
  keepsReport e := fun ⟨hparams, htrace⟩ => ⟨hparams, htrace.trans (List.prefix_append _ [e])⟩
  keepsLoad _ _ h := h

/-- Settles O36: `sp` is kept by every primitive, changing it commutes with every primitive, and the drivers only
reset it. -/
theorem stackPointerIsUnused : Obligations.StackPointerIsUnused := by
  refine ⟨fun s t w hs => ⟨(sp_keptByPrimitives s.sp).keepsStep rfl hs, ?_⟩, resetMachine_sp, ?_⟩
  · obtain ⟨_, hs', rfl⟩ := (lockstep_sp w).keepsStep rfl hs
    exact hs'
  · intro budget ps pr h
    exact spOk_keptByDrivers.keepsListenLoop budget ps h

/-- Settles O56: steps and guard failures append, reset and injection touch neither. -/
theorem driversKeepConfigurationAndTrace : Obligations.DriversKeepConfigurationAndTrace := by
  intro budget ps pr
  have K := configAndTrace_keptByDrivers pr.machine.params pr.machine.trace
  have start : ConfigAndTrace pr.machine.params pr.machine.trace pr.machine := ⟨rfl, List.prefix_rfl⟩
  obtain ⟨hparams, htrace⟩ := K.keepsListenLoop budget ps start
  obtain ⟨hparams', htrace'⟩ := K.keepsSelfTest budget start
  exact ⟨hparams, htrace, hparams', htrace'⟩

end Sys2Proof.Machine

/-! SUPPORT. Memory accesses against their bounds, and the opcode that a store leaves at `pc`. -/

namespace Sys2Proof.Machine

/-! ## The bounds check -/

/-- Settles O10: the two branches of the read, the halting event written out field by field. -/
theorem memReadIsBoundsChecked : Obligations.MemReadIsBoundsChecked := by
  refine fun a s => ⟨memRead_inBounds, fun h => ?_⟩
  rw [memRead_outOfBounds (Nat.not_lt.mpr h)]
  exact ⟨rfl, rfl⟩

theorem memWrite_storedAt (a : Nat) (v : Byte) (s : State) : StoredAt a v s (memWrite a v s) := by
  unfold StoredAt
  split
  case isTrue h =>
    rw [memWrite_inBounds v h]
    exact ⟨Memory.read_write_same s.mem a v, fun c hc => Memory.read_write_other s.mem v (by simpa using hc)⟩
  case isFalse h =>
    rw [memWrite_outOfBounds v h]
    exact fun _ _ => rfl

theorem memWrite_reports (a : Nat) (v : Byte) (s : State) : Reports (writeReports s a v) s (memWrite a v s) := by
  unfold writeReports
  split
  case isTrue h => simp [Reports, memWrite_inBounds v h]
  case isFalse h => simp [Reports, memWrite_outOfBounds v h]

theorem memWrite_sameRegs (a : Nat) (v : Byte) (s : State) : SameRegsBut [] s (memWrite a v s) :=
  fun r _ => readReg_congr (memWrite_regs a v s) r

theorem memWrite_sameControl (a : Nat) (v : Byte) (s : State) : SameControl s (memWrite a v s) :=
  ⟨memWrite_pc a v s, memWrite_sp a v s, memWrite_flags a v s, memWrite_params a v s⟩

/-- Settles O11: the byte stored, the report and the two frames of a write. -/
theorem memWriteIsBoundsChecked : Obligations.MemWriteIsBoundsChecked := fun a v s =>
  ⟨memWrite_storedAt a v s, memWrite_reports a v s, memWrite_sameRegs a v s, memWrite_sameControl a v s⟩

/-! ## Stores into the instruction stream -/

theorem nextOpcode_memWrite {a : Nat} {s : State} (v : Byte) (hpc : s.pc = a) (h : a < s.params.memSize) :
    nextOpcode (memWrite a v s) = v := by
  rw [nextOpcode, fetch8_fst, operandAt, memWrite_pc, memWrite_params, hpc, if_pos h, memWrite_mem, if_pos h,
    Memory.read_write_same]

/-- An instruction that stores at the address after its own bytes stores the opcode of the next step
(20_memory.md R62). -/
theorem step_nextOpcode_of_store {s : State} {i : Instr} {rest : List Byte} {a : Nat} {v : Byte}
    (hrun : s.halted = false) (hdec : decode (codeBytes s 3) = .ok (i, rest))
    (hin : ∀ k ≤ (encode i).length, pcPlus s.params s.pc k < s.params.memSize)
    (ha : a = pcPlus s.params s.pc (encode i).length)
    (hstore : ∀ pc, exec i { s with pc := pc } = .next (memWrite a v { s with pc := pc })) :
    ∃ t, step s = .next t ∧ nextOpcode t = v := by
  have hstep := stepRunsTheDecodedInstruction s i rest hrun hdec fun k hk => hin k hk.le
  exact ⟨_, hstep.trans (hstore _), nextOpcode_memWrite v ha.symm (ha ▸ hin _ le_rfl)⟩

theorem exec_sta (lo hi : Byte) (s : State) :
    exec (.sta lo hi) s = .next (memWrite (addr16 lo hi) (readAcc s) s) := rfl

/-! ## Moves by their selectors -/

theorem encode_of_isMoveOpcode {i : Instr} (h : isMoveOpcode i.opcode = true) : encode i = [i.opcode] := by
  cases i
  case ldi v => exact absurd h (by rw [opcode_ldi]; decide)
  case sta lo hi => exact absurd h (by rw [opcode_sta]; decide)
  all_goals rfl

theorem dispatch_of_isMoveOpcode {op : Byte} (h : isMoveOpcode op = true) : dispatchTable op = .moveGroup := by
  have hinc : op ≠ 0x95#8 := by
    rintro rfl
    exact absurd h (by decide)
  simp [dispatchTable_eq, hinc, h]

/-- A move does what the selectors of its opcode name (42_move.md R140). -/
theorem exec_of_isMoveOpcode {i : Instr} {src dst : Role} (h : isMoveOpcode i.opcode = true)
    (hsrc : selectorRole (highNibble i.opcode) = some src) (hdst : selectorRole (lowNibble i.opcode) = some dst)
    (s : State) : exec i s = .next (move dst src s) := by
  rw [exec_eq_runHandler (encode_of_isMoveOpcode h), dispatch_of_isMoveOpcode h]
  simp only [runHandler, moveHandler, hsrc, hdst]

/-- Settles O39: STA, and a move of a register into M, each store at the `pc` past their bytes. -/
theorem storedByteIsTheNextOpcode : Obligations.StoredByteIsTheNextOpcode := by
  intro s i rest hrun hdec hin
  refine ⟨fun lo hi hsta haddr => ?_, fun r hmove hlow hsrc haddr => ?_⟩
  · subst hsta
    exact step_nextOpcode_of_store hrun hdec hin haddr fun _ => exec_sta lo hi _
  · have hlen : (encode i).length = 1 := congrArg List.length (encode_of_isMoveOpcode hmove)
    have hdst : selectorRole (lowNibble i.opcode) = some .m := congrArg selectorRole hlow
    exact step_nextOpcode_of_store hrun hdec hin (haddr.trans (congrArg _ hlen.symm))
      fun _ => exec_of_isMoveOpcode hmove hsrc hdst _

end Sys2Proof.Machine

/-! SUPPORT. Decoding and encoding as inverses, and where decoding fails (30_encoding.md R70 to R81). -/

namespace Sys2Proof

/-! ## From an instruction to its bytes and back -/

/-- The cell of the opcode map at a one-byte constructor's byte is that constructor (30_encoding.md R71, R74, R76). -/
theorem decode_encode (i : Instr) (rest : List Byte) : decode (encode i ++ rest) = .ok (i, rest) := by
  cases i
  case ldi v => exact decode_ldi v rest
  case sta lo hi => exact decode_sta lo hi rest
  all_goals rfl

/-- Settles O1: LDI and STA by their formats, every other constructor by its cell of the opcode map. -/
theorem decodeOfEncodeIsTheInstruction : Obligations.DecodeOfEncodeIsTheInstruction :=
  fun i rest _ => decode_encode i rest

/-! ## From bytes to an instruction and back -/

/-- Everything decoding an opcode byte and the bytes after it can do, format by format (30_encoding.md R70 to R74). -/
theorem decode_cases (op : Byte) (bs : List Byte) :
    (∃ i rest, decode (op :: bs) = .ok (i, rest) ∧ op :: bs = encode i ++ rest ∧
      (opcodeRow op).length ≤ (op :: bs).length) ∨
    (∃ e, decode (op :: bs) = .error e) ∧ (op :: bs).length < (opcodeRow op).length := by
  rcases opcodeRow_cases op with ⟨i, hrow, henc⟩ | rfl | rfl
  · refine .inl ⟨i, bs, decode_oneByte hrow bs, by rw [henc]; rfl, ?_⟩
    rcases hrow with hrow | hrow <;> simp [hrow, OpcodeRow.length]
  · match bs with
    | [] => exact .inr ⟨⟨_, rfl⟩, by decide⟩
    | v :: rest => exact .inl ⟨_, _, decode_ldi v rest, rfl, Nat.le_add_left 2 _⟩
  · match bs with
    | [] => exact .inr ⟨⟨_, rfl⟩, by decide⟩
    | [_] => exact .inr ⟨⟨_, rfl⟩, Nat.lt_succ_self 2⟩
    | lo :: hi :: rest => exact .inl ⟨_, _, decode_sta lo hi rest, rfl, Nat.le_add_left 3 _⟩

theorem decode_nil : decode [] = .error .missingOpcode := rfl

/-- Settles O2: each format that decodes is the encoding of its instruction. -/
theorem decodedBytesAreTheEncoding : Obligations.DecodedBytesAreTheEncoding := by
  intro bs rest i h
  cases bs with
  | nil => cases decode_nil.symm.trans h
  | cons op bs =>
    rcases decode_cases op bs with ⟨j, rest', hdec, hbs, -⟩ | ⟨⟨e, hdec⟩, -⟩
    · cases hdec.symm.trans h
      exact hbs
    · cases hdec.symm.trans h

/-- Settles O3: of the formats, those that end early are the ones with fewer bytes than their opcode's length. -/
theorem decodeFailsOnlyForMissingBytes : Obligations.DecodeFailsOnlyForMissingBytes := by
  intro bs
  cases bs with
  | nil => simp [decode_nil]
  | cons op bs =>
    rcases decode_cases op bs with ⟨i, rest, hdec, -, hlen⟩ | ⟨herr, hlen⟩
    · simpa [hdec] using hlen
    · simpa [herr] using hlen

/-- Settles O4: each word is one cell of the opcode map, with its operand bytes. -/
theorem writtenWordsDecode : Obligations.WrittenWordsDecode :=
  ⟨rfl, rfl, rfl, rfl, rfl, rfl, rfl, rfl, rfl⟩

end Sys2Proof

/-! SUPPORT. The installations of the dispatch table in any order, and the opcodes of the move group (30_encoding.md
R74 to R78, R84). -/

namespace Sys2Proof.Machine

/-! ## Installations that commute -/

/-- The table answers the handler of any installation at its opcodes, whichever came last (30_encoding.md R77). -/
theorem dispatch_of_installed {i : Install} (hi : i ∈ installs) {op : Byte} (h : i.opcodes op = true) :
    dispatchTable op = i.handler := by
  simp only [installs, List.mem_cons, List.not_mem_nil, or_false] at hi
  rcases hi with rfl | rfl | rfl | rfl | rfl | rfl
  pick_goal 5
  · exact dispatch_of_isMoveOpcode h
  all_goals
    obtain rfl : op = _ := eq_of_beq h
    rfl

/-- Installations at one opcode would have one handler, and no two have. -/
theorem installs_disjoint :
    installs.Pairwise fun i j => ∀ op, ¬ (i.opcodes op = true ∧ j.opcodes op = true) := by
  have hne : installs.Pairwise fun i j => i.handler ≠ j.handler := by decide
  refine hne.imp_of_mem fun hi hj hij op ⟨hiop, hjop⟩ => hij ?_
  rw [← dispatch_of_installed hi hiop, dispatch_of_installed hj hjop]

/-- Installations that share no opcode may be swapped. -/
theorem install_comm {i j : Install} (h : ∀ op, ¬ (i.opcodes op = true ∧ j.opcodes op = true))
    (table : Byte → Handler) : install (install table i) j = install (install table j) i := by
  funext op
  by_cases hi : i.opcodes op = true
  · have hj : ¬ j.opcodes op = true := fun hj => h op ⟨hi, hj⟩
    simp [install, hi, hj]
  · simp [install, hi]

/-- The order of pairwise disjoint installations does not change the table they build (30_encoding.md R78). -/
theorem buildTable_perm {l l' : List Install} (hp : l.Perm l')
    (hd : l.Pairwise fun i j => ∀ op, ¬ (i.opcodes op = true ∧ j.opcodes op = true)) :
    buildTable l = buildTable l' := by
  have hcomm : ∀ i ∈ l, ∀ j ∈ l, ∀ table, install (install table i) j = install (install table j) i :=
    List.Pairwise.forall_of_forall_of_flip (fun _ _ _ => rfl) (hd.imp install_comm)
      (hd.imp fun h table => (install_comm h table).symm)
  exact hp.foldl_eq' hcomm _

/-- Settles O5: the installations are disjoint, so each pair of them commutes. -/
theorem installOrderDoesNotChangeTheTable : Obligations.InstallOrderDoesNotChangeTheTable :=
  ⟨installs_disjoint, by decide, by decide, fun _ hp => (buildTable_perm hp.symm installs_disjoint).symm⟩

/-! ## Move opcodes and their selectors -/

theorem roleOfIndex_roleIndex (r : Role) : roleOfIndex (roleIndex r) = some r := by
  cases r with
  | reg r => cases r <;> rfl
  | m => rfl

theorem roleIndex_le (r : Role) : roleIndex r ≤ 5 := by
  cases r with
  | reg r => cases r <;> decide
  | m => decide

theorem exists_roleIndex {n : Nat} (h : n ≤ 5) : ∃ r, roleIndex r = n := by
  interval_cases n
  exacts [⟨.reg .r0, rfl⟩, ⟨.reg .r1, rfl⟩, ⟨.reg .r2, rfl⟩, ⟨.reg .r3, rfl⟩, ⟨.reg .r4, rfl⟩, ⟨.m, rfl⟩]

/-- Selectors 0x0 to 0x5 name the roles directly (30_encoding.md R75). -/
theorem selectorRole_of_eq_roleIndex {n : BitVec 4} {r : Role} (h : n.toNat = roleIndex r) :
    selectorRole n = some r := by
  rw [selectorRole, if_pos (h ▸ roleIndex_le r), h, roleOfIndex_roleIndex]

/-- Selectors 0xA to 0xF name the roles with 0xA added (30_encoding.md R75). -/
theorem selectorRole_of_eq_roleIndex_add {n : BitVec 4} {r : Role} (h : n.toNat = roleIndex r + 0xA) :
    selectorRole n = some r := by
  rw [selectorRole, if_neg (by omega), if_pos (by omega), h, Nat.add_sub_cancel, roleOfIndex_roleIndex]

theorem nibbles_moveOpcode (d s : Role) :
    (highNibble (moveOpcode d s)).toNat = roleIndex s + 0xA ∧ (lowNibble (moveOpcode d s)).toNat = roleIndex d := by
  have byIndex : ∀ j ≤ 5, ∀ k ≤ 5,
      (highNibble ((BitVec.ofNat 8 (k + 0xA) <<< 4) ||| BitVec.ofNat 8 j)).toNat = k + 0xA ∧
      (lowNibble ((BitVec.ofNat 8 (k + 0xA) <<< 4) ||| BitVec.ofNat 8 j)).toNat = j := by decide
  exact byIndex _ (roleIndex_le d) _ (roleIndex_le s)

theorem isMoveOpcode_moveOpcode (d s : Role) : isMoveOpcode (moveOpcode d s) = true := by
  obtain ⟨hhigh, hlow⟩ := nibbles_moveOpcode d s
  simp [isMoveOpcode, hhigh, hlow, roleIndex_le]

theorem eq_of_nibbles (op : Byte) :
    (BitVec.ofNat 8 (highNibble op).toNat <<< 4) ||| BitVec.ofNat 8 (lowNibble op).toNat = op := by
  revert op
  decide +kernel

/-- The opcodes of the move group are those that R84's formula gives (30_encoding.md R74, R84). -/
theorem exists_eq_moveOpcode {op : Byte} (h : isMoveOpcode op = true) : ∃ d s, op = moveOpcode d s := by
  simp only [isMoveOpcode, Bool.and_eq_true, decide_eq_true_eq] at h
  obtain ⟨hhigh, hlow⟩ := h
  obtain ⟨d, hd⟩ := exists_roleIndex hlow
  obtain ⟨s, hs⟩ := exists_roleIndex (n := (highNibble op).toNat - 0xA) (by omega)
  have hs' : roleIndex s + 0xA = (highNibble op).toNat := by omega
  exact ⟨d, s, by rw [moveOpcode, hd, hs', eq_of_nibbles]⟩

theorem selectorRole_highNibble_moveOpcode (d s : Role) : selectorRole (highNibble (moveOpcode d s)) = some s :=
  selectorRole_of_eq_roleIndex_add (nibbles_moveOpcode d s).1

theorem selectorRole_lowNibble_moveOpcode (d s : Role) : selectorRole (lowNibble (moveOpcode d s)) = some d :=
  selectorRole_of_eq_roleIndex (nibbles_moveOpcode d s).2

end Sys2Proof.Machine

/-! SUPPORT. What a move makes of a state, form by form (42_move.md R140 to R143). -/

namespace Sys2Proof.Machine

/-! ## Reading M -/

theorem memRead_fst (a : Nat) (s : State) : (memRead a s).1 = operandAt s a := by
  unfold memRead operandAt
  split <;> rfl

theorem memRead_reports (a : Nat) (s : State) : Reports (readReports s a) s (memRead a s).2 := by
  rcases memRead_cases a s with ⟨ha, e⟩ | ⟨ha, e⟩
  · simp [Reports, readReports, e, ha]
  · simp [Reports, readReports, e, Nat.not_lt.mpr ha]

/-- Events appended one after the other halt as they do together. -/
theorem Reports.append {es es' : List Event} {s t u : State} (h : Reports es s t) (h' : Reports es' t u) :
    Reports (es ++ es') s u := by
  obtain ⟨htrace, hhalted⟩ := h
  obtain ⟨htrace', hhalted'⟩ := h'
  refine ⟨by rw [htrace', htrace, List.append_assoc], ?_⟩
  rw [hhalted', hhalted]
  cases es <;> simp

theorem writeReports_congr {s t : State} (h : t.params = s.params) (a : Nat) (v : Byte) :
    writeReports t a v = writeReports s a v := by
  simp only [writeReports, h]

/-- Storing the byte that an operand read gave leaves memory as it was, in and out of bounds. -/
theorem read_memWrite_operandAt {s t : State} (hm : t.mem = s.mem) (hp : t.params = s.params) (a c : Nat) :
    (memWrite a (operandAt s a) t).mem.read c = s.mem.read c := by
  rw [memWrite_mem, hm, hp]
  split
  case isTrue ha => rw [Memory.read_write, operandAt, if_pos ha]; split <;> simp [*]
  case isFalse => rfl

/-! ## The four forms of a move -/

theorem writeReg_sameRegsBut (d : Reg) (v : Byte) (s : State) : SameRegsBut [d] s (writeReg d v s) :=
  fun _ hr => readReg_writeReg_other v s (by simpa using hr)

/-- Every move does what R140 and R141 say of its source and destination, with its frame (42_move.md R140, R143). -/
theorem move_result (src dst : Role) (s : State) : MoveResult src dst s (move dst src s) := by
  cases src with
  | reg r =>
    cases dst with
    | reg d =>
      rw [move_reg_reg]
      exact ⟨⟨rfl, rfl, rfl, rfl⟩, readReg_writeReg_same d _ s, writeReg_sameRegsBut d _ s, fun _ _ => rfl,
        by simp [Reports]⟩
    | m =>
      rw [move_m_reg]
      exact ⟨memWrite_sameControl _ _ s, memWrite_sameRegs _ _ s, memWrite_storedAt _ _ s, memWrite_reports _ _ s⟩
  | m =>
    have hregs := memRead_regs (pairValue s).toNat s
    have hmem := memRead_mem (pairValue s).toNat s
    have hparams := memRead_params (pairValue s).toNat s
    have hread := memRead_reports (pairValue s).toNat s
    cases dst with
    | reg d =>
      rw [move_reg_m, memRead_fst]
      refine ⟨⟨by simp, by simp, by simp, by simp⟩, readReg_writeReg_same d _ _, fun r hr => ?_, fun a _ => ?_, hread⟩
      · rw [writeReg_sameRegsBut d _ _ r hr, readReg_congr hregs]
      · rw [writeReg_mem, hmem]
    | m =>
      rw [move_m_m, memRead_fst]
      refine ⟨⟨by simp, by simp, by simp, by simp⟩, fun r hr => ?_, fun a _ => ?_, ?_⟩
      · rw [memWrite_sameRegs _ _ _ r hr, readReg_congr hregs]
      · exact read_memWrite_operandAt hmem hparams _ a
      · rw [← writeReports_congr hparams]
        exact hread.append (memWrite_reports _ _ _)

/-! ## The instructions of the move group -/

/-- The instruction encoded by R84's opcode of two roles moves between them. -/
theorem isMove_moveOpcode {i : Instr} {d s : Role} (h : i.opcode = moveOpcode d s) : IsMove i i.opcode s d := by
  have hmove : isMoveOpcode i.opcode = true := h ▸ isMoveOpcode_moveOpcode d s
  have hsrc : selectorRole (highNibble i.opcode) = some s := h ▸ selectorRole_highNibble_moveOpcode d s
  have hdst : selectorRole (lowNibble i.opcode) = some d := h ▸ selectorRole_lowNibble_moveOpcode d s
  exact ⟨encode_of_isMoveOpcode hmove,
    fun st => ⟨move d s st, exec_of_isMoveOpcode hmove hsrc hdst st, move_result s d st⟩⟩

/-- Settles O19: the opcode is R84's of some source and destination, and those are what its selectors name. -/
theorem moveGroupFollowsItsSelectors : Obligations.MoveGroupFollowsItsSelectors := by
  intro i hmove
  obtain ⟨d, s, hop⟩ := exists_eq_moveOpcode hmove
  obtain ⟨hhigh, hlow⟩ := nibbles_moveOpcode d s
  refine ⟨s, d, ?_, ?_, ?_, ?_, isMove_moveOpcode hop⟩ <;> rw [hop]
  · rw [hhigh, Nat.add_sub_cancel, roleOfIndex_roleIndex]
  · rw [hlow, roleOfIndex_roleIndex]
  · exact selectorRole_highNibble_moveOpcode d s
  · exact selectorRole_lowNibble_moveOpcode d s

/-- Every opcode of the move group is an instruction of one byte. -/
theorem exists_decode_of_isMoveOpcode {op : Byte} (h : isMoveOpcode op = true) :
    ∃ i, i.opcode = op ∧ ∀ rest, decode (op :: rest) = .ok (i, rest) := by
  rcases opcodeRow_cases op with ⟨i, hrow, henc⟩ | rfl | rfl
  · exact ⟨i, by rw [Instr.opcode, henc]; rfl, decode_oneByte hrow⟩
  · exact absurd h (by decide)
  · exact absurd h (by decide)

/-- Settles O7: R84's opcode is in the move group, so it decodes to the move of its two roles. -/
theorem moveLineRunsItsMove : Obligations.MoveLineRunsItsMove := by
  intro t d s rest
  obtain ⟨i, hop, hdec⟩ := exists_decode_of_isMoveOpcode (isMoveOpcode_moveOpcode (namedRole t d) (namedRole t s))
  exact ⟨i, i.opcode, hop, by rw [hop]; rfl, hop ▸ hdec rest, isMove_moveOpcode hop⟩

end Sys2Proof.Machine

/-! SUPPORT. Disassembly, opcode form by opcode form (30_encoding.md R83, R84, R86). -/

namespace Sys2Proof.Machine

/-! ## The name of a role -/

/-- A one-to-one table gives every register to one of the five names (10_state.md R23). -/
theorem mem_of_roleTable_wellFormed {t : RoleTable} (h : t.wellFormed = true) (r : Reg) :
    r ∈ [t.b, t.c, t.h, t.l, t.a] := by
  have hall : ∀ q : Reg, q ∈ [Reg.r0, .r1, .r2, .r3, .r4] := fun q => by cases q <;> decide
  have hnodup : [t.b, t.c, t.h, t.l, t.a].Nodup := of_decide_eq_true h
  have hperm := (List.subperm_of_subset hnodup fun q _ => hall q).perm_of_length_le le_rfl
  exact hperm.mem_iff.mpr (hall r)

theorem namedRole_roleName {t : RoleTable} (h : t.wellFormed = true) (r : Role) :
    namedRole t (roleName t r) = r := by
  cases r with
  | m => rfl
  | reg r =>
    have hr := mem_of_roleTable_wellFormed h r
    simp only [List.mem_cons, List.not_mem_nil, or_false] at hr
    simp only [roleName]
    split_ifs with hb hc hh hl
    · exact congrArg Role.reg hb
    · exact congrArg Role.reg hc
    · exact congrArg Role.reg hh
    · exact congrArg Role.reg hl
    · have ha : r = t.a := by simpa [Ne.symm hb, Ne.symm hc, Ne.symm hh, Ne.symm hl] using hr
      exact congrArg Role.reg ha.symm

/-! ## Disassembling, form by form -/

/-- The forms of an opcode in assembler text: the five single opcodes, a move, an unimplemented one (R77, R83). -/
theorem opcode_cases (op : Byte) :
    op ∈ [0x00#8, 0x04#8, 0x43#8, 0x95#8, 0xFF#8] ∨ (∃ d s, op = moveOpcode d s) ∨
      isUnimplementedOpcode op = true := by
  by_cases hsingle : op ∈ [0x00#8, 0x04#8, 0x43#8, 0x95#8, 0xFF#8]
  · exact .inl hsingle
  by_cases hmove : isMoveOpcode op = true
  · exact .inr (.inl (exists_eq_moveOpcode hmove))
  · exact .inr (.inr (by simp [isUnimplementedOpcode, hmove, hsingle]))

theorem dispatch_of_isUnimplementedOpcode {op : Byte} (h : isUnimplementedOpcode op = true) :
    dispatchTable op = .unimplemented := by
  simp only [isUnimplementedOpcode, Bool.not_eq_true', Bool.or_eq_false_iff] at h
  obtain ⟨hmove, hsingle⟩ := h
  simp only [List.contains_eq_mem, decide_eq_false_iff_not, List.mem_cons, List.not_mem_nil, or_false, not_or]
    at hsingle
  obtain ⟨hnop, hsta, hldi, hinc, hhlt⟩ := hsingle
  simp [dispatchTable_eq, hmove, hnop, hsta, hldi, hinc, hhlt]

theorem disassemble_unimplemented {op : Byte} (h : isUnimplementedOpcode op = true) (t : RoleTable)
    (bs : List Byte) : disassemble t (op :: bs) = some (.unimp op, bs) := by
  simp [disassemble, dispatch_of_isUnimplementedOpcode h]

theorem disassemble_moveOpcode (t : RoleTable) (d s : Role) (bs : List Byte) :
    disassemble t (moveOpcode d s :: bs) = some (.mov (roleName t d) (roleName t s), bs) := by
  simp [disassemble, dispatch_of_isMoveOpcode (isMoveOpcode_moveOpcode d s),
    selectorRole_highNibble_moveOpcode, selectorRole_lowNibble_moveOpcode]

theorem assemble_roleName {t : RoleTable} (h : t.wellFormed = true) (d s : Role) :
    assemble t (.mov (roleName t d) (roleName t s)) = [moveOpcode d s] := by
  rw [assemble, namedRole_roleName h, namedRole_roleName h]

theorem assemble_sta (t : RoleTable) (lo hi : Byte) : assemble t (.sta (concat16 hi lo)) = [0x04#8, lo, hi] := by
  rw [assemble, concat16, BitVec.extractLsb'_append_eq_left, BitVec.extractLsb'_append_eq_right]

/-- A list of bytes that starts no line: no byte is left, or an operand byte of LDI or STA is missing. -/
def LacksBytes (bs : List Byte) : Prop := bs = [] ∨ bs = [0x43#8] ∨ bs = [0x04#8] ∨ ∃ lo, bs = [0x04#8, lo]

/-- Everything disassembly can do: answer a line, or find bytes missing (30_encoding.md R86). -/
theorem disassemble_cases (t : RoleTable) (bs : List Byte) :
    (∃ a rest, disassemble t bs = some (a, rest) ∧ a.wellFormed = true ∧
      (t.wellFormed = true → assemble t a ++ rest = bs)) ∨
    disassemble t bs = none ∧ LacksBytes bs := by
  match bs with
  | [] => exact .inr ⟨rfl, .inl rfl⟩
  | op :: bs =>
    rcases opcode_cases op with hop | ⟨d, s, rfl⟩ | hop
    case inr.inl =>
      exact .inl ⟨_, bs, disassemble_moveOpcode t d s bs, rfl, fun h => by rw [assemble_roleName h]; rfl⟩
    case inr.inr => exact .inl ⟨_, bs, disassemble_unimplemented hop t bs, hop, fun _ => rfl⟩
    case inl =>
      simp only [List.mem_cons, List.not_mem_nil, or_false] at hop
      rcases hop with rfl | rfl | rfl | rfl | rfl
      · exact .inl ⟨.nop, bs, rfl, rfl, fun _ => rfl⟩
      · match bs with
        | [] => exact .inr ⟨rfl, .inr (.inr (.inl rfl))⟩
        | [lo] => exact .inr ⟨rfl, .inr (.inr (.inr ⟨lo, rfl⟩))⟩
        | lo :: hi :: rest =>
          exact .inl ⟨.sta (concat16 hi lo), rest, rfl, rfl, fun _ => by rw [assemble_sta]; rfl⟩
      · match bs with
        | [] => exact .inr ⟨rfl, .inr (.inl rfl)⟩
        | v :: rest => exact .inl ⟨.ldi v, rest, rfl, rfl, fun _ => rfl⟩
      · exact .inl ⟨.inc, bs, rfl, rfl, fun _ => rfl⟩
      · exact .inl ⟨.hlt, bs, rfl, rfl, fun _ => rfl⟩

theorem disassemble_of_lacksBytes {bs : List Byte} (h : LacksBytes bs) (t : RoleTable) :
    disassemble t bs = none := by
  rcases h with rfl | rfl | rfl | ⟨lo, rfl⟩ <;> rfl

/-- Settles O6: each form of an opcode answers a line of those bytes, unless its operand bytes are missing. -/
theorem disassemblyAssemblesBack : Obligations.DisassemblyAssemblesBack := by
  refine ⟨fun t bs rest a ht h => ?_, fun t bs => ⟨fun h => ?_, fun h => disassemble_of_lacksBytes h t⟩⟩
  · rcases disassemble_cases t bs with ⟨a', rest', hsome, hwf, hback⟩ | ⟨hnone, -⟩
    · cases hsome.symm.trans h
      exact ⟨hwf, hback ht⟩
    · cases hnone.symm.trans h
  · rcases disassemble_cases t bs with ⟨a, rest, hsome, -⟩ | ⟨-, hlacks⟩
    · cases hsome.symm.trans h
    · exact hlacks

end Sys2Proof.Machine

/-! SUPPORT. Assembler sources: the addresses of labels and the size of the image (30_encoding.md R83). -/

namespace Sys2Proof.Machine

/-! ## The addresses of labels -/

theorem labelsFrom_cons (a : Nat) (l : SourceLine) (ls : List SourceLine) :
    labelsFrom a (l :: ls) = labelsFrom a [l] ++ labelsFrom (a + l.size) ls := by
  cases l <;> rfl

theorem sourceSize_cons (l : SourceLine) (ls : List SourceLine) : sourceSize (l :: ls) = l.size + sourceSize ls := by
  simp [sourceSize]

/-- The second part of a source has its labels at the addresses after the first part. -/
theorem labelsFrom_append (a : Nat) (ls ls' : List SourceLine) :
    labelsFrom a (ls ++ ls') = labelsFrom a ls ++ labelsFrom (a + sourceSize ls) ls' := by
  induction ls generalizing a with
  | nil => rfl
  | cons l ls ih =>
    rw [List.cons_append, labelsFrom_cons, ih, labelsFrom_cons a l ls, sourceSize_cons, List.append_assoc,
      Nat.add_assoc]

theorem labelAddress_of_not_mem {pre : List SourceLine} {name : String}
    (h : name ∉ (labelsFrom 0 pre).map Prod.fst) (post : List SourceLine) :
    labelAddress (pre ++ .label name :: post) name = some (sourceSize pre) := by
  have hpre : (labelsFrom 0 pre).lookup name = none :=
    List.lookup_eq_none_iff.mpr fun p hp => bne_iff_ne.mpr fun e => h (List.mem_map.mpr ⟨p, hp, e.symm⟩)
  rw [labelAddress, labelsFrom_append, List.lookup_append, hpre, Nat.zero_add]
  exact List.lookup_cons_self

/-! ## The size of the image -/

theorem length_of_mapM_eq_some {α β : Type} {f : α → Option β} {vs : List α} {us : List β}
    (h : vs.mapM f = some us) : us.length = vs.length := by
  induction vs generalizing us with
  | nil =>
    cases h
    rfl
  | cons v vs ih =>
    rw [List.mapM_cons] at h
    obtain ⟨u, -, h⟩ := Option.bind_eq_some_iff.mp h
    obtain ⟨us', hus, h⟩ := Option.bind_eq_some_iff.mp h
    cases h
    exact congrArg (· + 1) (ih hus)

/-- The lines that a source line stands for assemble to as many bytes as it takes. -/
theorem length_assemble_of_read {env : String → Option Nat} {l : SourceLine} {as : List Asm}
    (h : l.read env = some as) (t : RoleTable) : (as.flatMap (assemble t)).length = l.size := by
  cases l with
  | label | nop | hlt | inc | mov =>
    cases h
    rfl
  | ldi =>
    obtain ⟨v, -, rfl⟩ := Option.map_eq_some_iff.mp h
    rfl
  | sta addr =>
    cases addr with
    | number | label =>
      obtain ⟨a, -, rfl⟩ := Option.map_eq_some_iff.mp h
      rfl
  | unimp =>
    obtain ⟨op, -, h⟩ := Option.bind_eq_some_iff.mp h
    split at h <;> cases h
    rfl
  | bytes vs =>
    obtain ⟨us, hus, rfl⟩ := Option.map_eq_some_iff.mp h
    simpa [assemble, SourceLine.size] using length_of_mapM_eq_some hus

theorem length_assemble_of_readLines {env : String → Option Nat} {ls : List SourceLine} {as : List Asm}
    (h : readLines env ls = some as) (t : RoleTable) : (as.flatMap (assemble t)).length = sourceSize ls := by
  induction ls generalizing as with
  | nil =>
    cases h
    rfl
  | cons l ls ih =>
    unfold readLines at h
    split at h
    case h_2 => cases h
    case h_1 a as' hl hls =>
      cases h
      rw [List.flatMap_append, List.length_append, length_assemble_of_read hl, ih hls, sourceSize_cons]

/-- Settles O8: the labels of the lines before come first, and each line takes its size in the image. -/
theorem labelStandsForTheNextByte : Obligations.LabelStandsForTheNextByte := by
  refine ⟨fun pre post name h => labelAddress_of_not_mem h post, fun t ls bs h => ?_⟩
  unfold assembleSource at h
  split at h
  case isFalse => cases h
  case isTrue =>
    obtain ⟨as, has, rfl⟩ := Option.map_eq_some_iff.mp h
    exact length_assemble_of_readLines has t

end Sys2Proof.Machine

/-! SUPPORT. Taking a step: which handler it runs, in and out of bounds, and what it can report (40_engine.md R100 to
R106, 60_exceptions.md R250). -/

namespace Sys2Proof.Machine

/-! ## Taking a step -/

/-- Settles O24: the decoded instruction does what the handler at its opcode does. -/
theorem stepIsTheEngineStep : Obligations.StepIsTheEngineStep := fun _ => step_eq_engineStep

/-- Settles O25: the engine's step is total, and its `pc` is known. -/
theorem runningStepsAndHaltedDoesNot : Obligations.RunningStepsAndHaltedDoesNot := by
  refine fun s => ⟨step_of_halted, fun hrun => ⟨engineStep s, step_eq_engineStep hrun, ?_⟩⟩
  rw [engineStep_pc, nextOpcode, fetch8_fst]

theorem engineStep_inBounds {s : State} (h : s.pc < s.params.memSize) :
    engineStep s = runHandler (dispatchTable (s.mem.read s.pc)) (s.mem.read s.pc) (advancePc s) := by
  rw [engineStep, fetch8_inBounds h]

/-- The placeholder 0x00 dispatches NOP's handler, which leaves the state of the fetch (40_engine.md R106). -/
theorem engineStep_outOfBounds {s : State} (h : ¬ s.pc < s.params.memSize) : engineStep s = (fetch8 s).2 := by
  have hop : (fetch8 s).1 = 0x00#8 := congrArg Prod.fst (fetch8_outOfBounds h)
  rw [engineStep, hop]
  rfl

/-- Settles O27: the halting event of the fetch and the advance of `pc` are all that NOP's handler leaves. -/
theorem outOfBoundsFetchIsNop : Obligations.OutOfBoundsFetchIsNop := by
  intro s hrun hpc
  rw [step_eq_engineStep hrun, engineStep_outOfBounds (Nat.not_lt.mpr hpc), fetch8_outOfBounds (Nat.not_lt.mpr hpc)]
  rfl

@[simp] theorem engineStep_params (s : State) : (engineStep s).params = s.params := by
  obtain ⟨-, hparams, -⟩ := (configAndTrace_keptByPrimitives s.params s.trace).lockstep.keepsEngineStep
    ⟨rfl, rfl, List.prefix_rfl⟩
  exact hparams

/-! ## Addresses -/

theorem pcPlus_add (p : Params) (pc j k : Nat) : pcPlus p (pcPlus p pc j) k = pcPlus p pc (j + k) := by
  induction k with
  | zero => rfl
  | succ k ih => exact congrArg (pcAfter p) ih

theorem pcPlus_lt_of_wrap16 {p : Params} (hp : p.pcOverflow = .wrap16) {pc : Nat} (h : pc < 65536) (k : Nat) :
    pcPlus p pc k < 65536 := by
  cases k with
  | zero => exact h
  | succ k =>
    rw [pcPlus, pcAfter_wrap16 hp]
    exact Nat.mod_lt _ (by decide)

theorem addr16_lt (lo hi : Byte) : addr16 lo hi < 65536 := (concat16 hi lo).isLt

/-- With `hi` the placeholder 0x00, STA's address is `lo` (30_encoding.md R73). -/
theorem addr16_zero (lo : Byte) : addr16 lo 0x00#8 = lo.toNat := by
  simp [addr16, toNat_concat16]

/-! ## Out-of-bounds accesses -/

/-- An out-of-bounds access that a step from this `pc` can make: at a 16-bit address, or in the instruction stream
(20_memory.md R51, R52). -/
def OutOfBoundsAccess (p : Params) (pc : Nat) (e : Event) : Prop :=
  ∃ a, p.memSize ≤ a ∧ (a < 65536 ∨ ∃ k, a = pcPlus p pc k) ∧ (e = .oobRead a ∨ ∃ v, e = .oobWrite a v)

theorem OutOfBoundsAccess.isOutOfBounds {p : Params} {pc : Nat} {e : Event} (h : OutOfBoundsAccess p pc e) :
    e.isOutOfBounds = true := by
  obtain ⟨a, -, -, rfl | ⟨v, rfl⟩⟩ := h <;> rfl

/-- An access further on in the instruction stream is one from here. -/
theorem OutOfBoundsAccess.of_pcPlus {p : Params} {pc j : Nat} {e : Event}
    (h : OutOfBoundsAccess p (pcPlus p pc j) e) : OutOfBoundsAccess p pc e := by
  obtain ⟨a, hmem, haddr, he⟩ := h
  exact ⟨a, hmem, haddr.imp_right fun ⟨k, hk⟩ => ⟨j + k, by rw [hk, pcPlus_add]⟩, he⟩

/-- Under the source's parameters every address exists (20_memory.md R53). -/
theorem not_outOfBoundsAccess_of_source {p : Params} (hp : SourceParams p) {pc : Nat} (hpc : pc < 65536) (e : Event) :
    ¬ OutOfBoundsAccess p pc e := by
  obtain ⟨hsize, hwrap⟩ := hp
  rintro ⟨a, hmem, haddr | ⟨k, rfl⟩, -⟩
  · omega
  · have := pcPlus_lt_of_wrap16 hwrap hpc k
    omega

/-! ## Steps that report such accesses only -/

/-- From `s` to `t` at most `n` events are reported, each an out-of-bounds access, and the machine halts with them. -/
def ReportsAccesses (n : Nat) (s t : State) : Prop :=
  ∃ es, Reports es s t ∧ es.length ≤ n ∧ ∀ e ∈ es, OutOfBoundsAccess s.params s.pc e

namespace ReportsAccesses

variable {n m : Nat} {s t u : State}

theorem mono (h : ReportsAccesses n s t) (hnm : n ≤ m) : ReportsAccesses m s t := by
  obtain ⟨es, hrep, hlen, hall⟩ := h
  exact ⟨es, hrep, hlen.trans hnm, hall⟩

theorem of_eq (htrace : t.trace = s.trace) (hhalted : t.halted = s.halted) : ReportsAccesses 0 s t :=
  ⟨[], ⟨by simp [htrace], by simp [hhalted]⟩, le_rfl, by simp⟩

/-- One halting event, of an out-of-bounds access. -/
theorem of_raiseHalt {e : Event} (h : OutOfBoundsAccess s.params s.pc e) : ReportsAccesses 1 s (raiseHalt e s) :=
  ⟨[e], ⟨rfl, by simp⟩, le_rfl, by simpa using h⟩

/-- The counts add up, where `pc` has moved only through the instruction stream in between. -/
theorem trans (h : ReportsAccesses n s t) (h' : ReportsAccesses m t u) (hparams : t.params = s.params)
    (hpc : ∃ j, t.pc = pcPlus s.params s.pc j) : ReportsAccesses (n + m) s u := by
  obtain ⟨es, hrep, hlen, hall⟩ := h
  obtain ⟨es', hrep', hlen', hall'⟩ := h'
  obtain ⟨j, hj⟩ := hpc
  rw [hparams, hj] at hall'
  refine ⟨es ++ es', hrep.append hrep', ?_, fun e he => ?_⟩
  · rw [List.length_append]
    exact Nat.add_le_add hlen hlen'
  · exact (List.mem_append.mp he).elim (hall e) fun he => (hall' e he).of_pcPlus

/-- Under the source's parameters no such access exists, so nothing is reported (20_memory.md R53). -/
theorem reports_nil_of_source (h : ReportsAccesses n s t) (hp : SourceParams s.params) (hpc : s.pc < 65536) :
    Reports [] s t := by
  obtain ⟨es, hrep, -, hall⟩ := h
  obtain rfl : es = [] :=
    List.eq_nil_iff_forall_not_mem.mpr fun e he => not_outOfBoundsAccess_of_source hp hpc e (hall e he)
  exact hrep

end ReportsAccesses

/-! ## What each access can report -/

theorem memRead_reportsAccesses {a : Nat} (ha : a < 65536) (s : State) : ReportsAccesses 1 s (memRead a s).2 := by
  rcases memRead_cases a s with ⟨-, e⟩ | ⟨hmem, e⟩ <;> rw [e]
  · exact (ReportsAccesses.of_eq rfl rfl).mono (Nat.zero_le 1)
  · exact .of_raiseHalt ⟨a, hmem, .inl ha, .inl rfl⟩

theorem memWrite_reportsAccesses {a : Nat} (ha : a < 65536) (v : Byte) (s : State) :
    ReportsAccesses 1 s (memWrite a v s) := by
  rcases memWrite_cases a v s with ⟨-, e⟩ | ⟨hmem, e⟩ <;> rw [e]
  · exact (ReportsAccesses.of_eq rfl rfl).mono (Nat.zero_le 1)
  · exact .of_raiseHalt ⟨a, hmem, .inl ha, .inr ⟨v, rfl⟩⟩

theorem memWrite_reportsNothing {a : Nat} {s : State} (v : Byte) (ha : a < s.params.memSize) :
    ReportsAccesses 0 s (memWrite a v s) := by
  rw [memWrite_inBounds v ha]
  exact .of_eq rfl rfl

theorem fetch8_reportsNothing {s : State} (h : s.pc < s.params.memSize) : ReportsAccesses 0 s (fetch8 s).2 := by
  rw [fetch8_inBounds h]
  exact .of_eq rfl rfl

theorem fetch8_reportsAccesses (s : State) : ReportsAccesses 1 s (fetch8 s).2 := by
  by_cases h : s.pc < s.params.memSize
  · exact (fetch8_reportsNothing h).mono (Nat.zero_le 1)
  · rw [fetch8_outOfBounds h]
    exact ReportsAccesses.of_raiseHalt ⟨s.pc, Nat.le_of_not_lt h, .inr ⟨0, rfl⟩, .inl rfl⟩

/-- What follows a fetch adds its own reports to those of the fetch. -/
theorem ReportsAccesses.after_fetch8 {n m : Nat} {s t : State} (h : ReportsAccesses n s (fetch8 s).2)
    (h' : ReportsAccesses m (fetch8 s).2 t) : ReportsAccesses (n + m) s t :=
  h.trans h' (fetch8_params s) ⟨1, fetch8_pc s⟩

/-! ## What each handler can report -/

@[simp] theorem readRole_params (r : Role) (s : State) : (readRole r s).2.params = s.params := by cases r <;> simp

theorem readRole_reportsAccesses (r : Role) (s : State) : ReportsAccesses 1 s (readRole r s).2 := by
  cases r with
  | reg r => exact (ReportsAccesses.of_eq rfl rfl).mono (Nat.zero_le 1)
  | m => exact memRead_reportsAccesses (pairValue s).isLt s

theorem writeRole_reportsAccesses (r : Role) (v : Byte) (s : State) : ReportsAccesses 1 s (writeRole r v s) := by
  cases r with
  | reg r => exact (ReportsAccesses.of_eq rfl rfl).mono (Nat.zero_le 1)
  | m => exact memWrite_reportsAccesses (pairValue s).isLt v s

theorem moveHandler_reportsAccesses (op : Byte) (s : State) : ReportsAccesses 2 s (moveHandler op s) := by
  unfold moveHandler
  split
  case h_1 src dst _ _ =>
    exact (readRole_reportsAccesses src s).trans (writeRole_reportsAccesses dst _ _) (readRole_params src s)
      ⟨0, readRole_pc src s⟩
  case h_2 => exact (ReportsAccesses.of_eq rfl rfl).mono (Nat.zero_le 2)

/-- Of STA's second operand read and its store at most one is out of bounds: where `hi` is the placeholder, the address
is `lo` alone, which exists. -/
theorem storeAbsolute_reportsAccesses (lo : Byte) {s : State} (hmem : 256 ≤ s.params.memSize) :
    ReportsAccesses 1 s (storeAbsolute lo (fetch8 s).1 (fetch8 s).2) := by
  by_cases hpc : s.pc < s.params.memSize
  · exact (fetch8_reportsNothing hpc).after_fetch8 (memWrite_reportsAccesses (addr16_lt _ _) _ _)
  · have haddr : addr16 lo (fetch8 s).1 < (fetch8 s).2.params.memSize := by
      rw [fetch8_params, fetch8_outOfBounds hpc, addr16_zero]
      exact lo.isLt.trans_le hmem
    exact (fetch8_reportsAccesses s).after_fetch8 (memWrite_reportsNothing _ haddr)

/-- Every handler but HLT's reports out-of-bounds accesses only, and at most two of them. -/
theorem runHandler_reportsAccesses {hd : Handler} (hhlt : hd ≠ .haltOnSyscall) (op : Byte) {s : State}
    (hmem : 256 ≤ s.params.memSize) : ReportsAccesses 2 s (runHandler hd op s) := by
  cases hd with
  | haltOnSyscall => exact absurd rfl hhlt
  | loadImmediate =>
    exact ((fetch8_reportsAccesses s).after_fetch8 (.of_eq rfl rfl)).mono (Nat.le_succ 1)
  | storeAbsolute =>
    exact (fetch8_reportsAccesses s).after_fetch8 (storeAbsolute_reportsAccesses _ (by rwa [fetch8_params]))
  | moveGroup => exact moveHandler_reportsAccesses op s
  | unimplemented | noOp | aluGroup => exact (ReportsAccesses.of_eq rfl rfl).mono (Nat.zero_le 2)

/-! ## What a step can report -/

theorem eq_of_dispatch_haltOnSyscall {op : Byte} (h : dispatchTable op = .haltOnSyscall) : op = 0xFF#8 := by
  rw [dispatchTable_eq] at h
  grind

/-- Everything a step can report: at most two out-of-bounds accesses, or HLT's one SYSCALL (60_exceptions.md R250). -/
theorem engineStep_reports {s : State} (hmem : 256 ≤ s.params.memSize) :
    ReportsAccesses 2 s (engineStep s) ∨
    (nextOpcode s = 0xFF#8 ∧ Reports [.syscall (readAcc s)] s (engineStep s)) := by
  by_cases hpc : s.pc < s.params.memSize
  · by_cases hhlt : dispatchTable (fetch8 s).1 = .haltOnSyscall
    · refine .inr ⟨eq_of_dispatch_haltOnSyscall hhlt, ?_⟩
      rw [fetch8_inBounds hpc] at hhlt
      rw [engineStep_inBounds hpc, hhlt]
      exact ⟨rfl, by simp [runHandler, haltOnSyscall, raiseSyscallHalt]⟩
    · exact .inl ((fetch8_reportsNothing hpc).after_fetch8
        (runHandler_reportsAccesses hhlt _ (by rwa [fetch8_params])))
  · rw [engineStep_outOfBounds hpc]
    exact .inl ((fetch8_reportsAccesses s).mono (Nat.le_succ 1))

/-- Settles O34: the reports of a step are those of its handler, and an opcode that could not be fetched has none
after it. -/
theorem stepHaltsExactlyWhenItReports : Obligations.StepHaltsExactlyWhenItReports := by
  intro s t hwf hs
  obtain ⟨-, rfl⟩ := step_eq_next_iff.mp hs
  simp only [Params.wellFormed, Params.memSizeOk, Bool.and_eq_true, decide_eq_true_eq] at hwf
  rcases engineStep_reports (s := s) (by omega) with ⟨es, hrep, hlen, hall⟩ | ⟨hop, hrep⟩
  · exact ⟨es, hrep, hlen, .inl fun e he => (hall e he).isOutOfBounds⟩
  · exact ⟨_, hrep, by simp, .inr ⟨hop, rfl⟩⟩

end Sys2Proof.Machine

/-! SUPPORT. The run loop: a run is one step and then a shorter run, until `halted` or the end of the budget
(40_engine.md R107 to R110). -/

namespace Sys2Proof.Machine

/-! ## The run loop's equations -/

@[simp] theorem RunResult.addCycle_outcome (r : RunResult) : r.addCycle.outcome = r.outcome := rfl
@[simp] theorem RunResult.addCycle_cycles (r : RunResult) : r.addCycle.cycles = r.cycles + 1 := rfl
@[simp] theorem RunResult.addCycle_state (r : RunResult) : r.addCycle.state = r.state := rfl

theorem run_of_halted {s : State} (h : s.halted = true) (n : Nat) :
    run n s = { outcome := .halted, cycles := 0, state := s } := by
  cases n <;> simp [run, h]

theorem run_zero_of_running {s : State} (h : s.halted = false) :
    run 0 s = { outcome := .budgetExhausted, cycles := 0, state := s } := by
  simp [run, h]

theorem run_succ_of_running {s : State} (h : s.halted = false) (n : Nat) :
    run (n + 1) s = (run n (engineStep s)).addCycle := by
  simp [run, h, stepState_of_running h]

/-! ## Outcome and count -/

/-- The outcome is read off the state that the run leaves (R107, R251). -/
theorem run_outcome (n : Nat) (s : State) :
    (run n s).outcome = if (run n s).state.halted then .halted else .budgetExhausted := by
  induction n generalizing s with
  | zero => rfl
  | succ n ih =>
    cases h : s.halted with
    | true => simp [run_of_halted h, h]
    | false =>
      rw [run_succ_of_running h]
      exact ih (engineStep s)

theorem run_cycles_le (n : Nat) (s : State) : (run n s).cycles ≤ n := by
  induction n generalizing s with
  | zero => exact le_rfl
  | succ n ih =>
    cases h : s.halted with
    | true => simp [run_of_halted h]
    | false =>
      rw [run_succ_of_running h]
      exact Nat.succ_le_succ (ih (engineStep s))

theorem run_cycles_of_budgetExhausted {n : Nat} {s : State} (h : (run n s).outcome = .budgetExhausted) :
    (run n s).cycles = n := by
  induction n generalizing s with
  | zero => rfl
  | succ n ih =>
    cases hs : s.halted with
    | true => simp [run_of_halted hs] at h
    | false =>
      rw [run_succ_of_running hs] at h ⊢
      exact congrArg Nat.succ (ih h)

/-- Settles O40: the outcome says whether the final state is halted, and each cycle uses up one of the budget. -/
theorem runOutcomeAndCycles : Obligations.RunOutcomeAndCycles := by
  intro n s
  refine ⟨run_cycles_le n s, ?_, ?_, run_cycles_of_budgetExhausted⟩
  · simp [run_outcome]
  · simp [run_outcome]

/-! ## Composition -/

/-- Two runs are one longer run, by the steps of the first (R108, R110). -/
theorem run_add (m n : Nat) (s : State) :
    run (m + n) s =
      if (run m s).outcome = .halted then run m s
      else { run n (run m s).state with cycles := (run m s).cycles + (run n (run m s).state).cycles } := by
  induction m generalizing s with
  | zero =>
    cases h : s.halted with
    | true => simp [run_of_halted h]
    | false => simp [run_zero_of_running h]
  | succ m ih =>
    cases h : s.halted with
    | true => simp [run_of_halted h]
    | false =>
      rw [Nat.add_right_comm, run_succ_of_running h, run_succ_of_running h, ih]
      split
      case isTrue hout => simp [hout]
      case isFalse hout => simp [hout, RunResult.addCycle, Nat.add_right_comm]

/-- Settles O41: the run's equation at a step, and the composition. -/
theorem runsCompose : Obligations.RunsCompose := by
  refine ⟨fun n s t hrun hs => ?_, run_add⟩
  obtain ⟨-, rfl⟩ := step_eq_next_iff.mp hs
  exact run_succ_of_running hrun n

/-! ## The end of a run -/

/-- Settles O42: HLT's step halts, and the run of a HALTED machine is over. -/
theorem runStopsAtHalt : Obligations.RunStopsAtHalt := by
  refine ⟨fun n s h => run_of_halted h n, fun s => run_zero_of_running, fun n s hrun hpc hop => ?_⟩
  have hstep : engineStep s = haltOnSyscall (advancePc s) := by
    rw [engineStep_inBounds hpc, hop]
    rfl
  rw [run_succ_of_running hrun, hstep, run_of_halted rfl]
  exact ⟨rfl, rfl, fun _ _ => rfl, fun _ _ => rfl⟩

/-- Settles O35: no step makes an out-of-bounds access, so the first report is a SYSCALL, and the run ends with it. -/
theorem sourceRunReportsOnlyItsHalt : Obligations.SourceRunReportsOnlyItsHalt := by
  intro n
  induction n with
  | zero =>
    intro s _ _ hrun
    rw [run_zero_of_running hrun]
    exact .inl ⟨rfl, rfl⟩
  | succ n ih =>
    intro s hp hpc hrun
    obtain ⟨hsize, hwrap⟩ := hp
    rw [run_succ_of_running hrun, RunResult.addCycle_outcome, RunResult.addCycle_state]
    rcases engineStep_reports (s := s) (by omega) with hacc | ⟨-, htrace, hhalted⟩
    · obtain ⟨htrace, hhalted⟩ := hacc.reports_nil_of_source ⟨hsize, hwrap⟩ hpc
      have hpc' : (engineStep s).pc < 65536 := engineStep_pc s ▸ pcPlus_lt_of_wrap16 hwrap hpc _
      have hrest := ih (engineStep s) (by rw [engineStep_params]; exact ⟨hsize, hwrap⟩) hpc' (by simp [hhalted, hrun])
      rwa [htrace, List.append_nil] at hrest
    · rw [run_of_halted (by simp [hhalted]) n]
      exact .inr ⟨rfl, readAcc s, htrace⟩

end Sys2Proof.Machine

/-! SUPPORT. The single-opcode instructions NOP, LDI, STA and HLT and the unimplemented opcodes, each as its meaning
and as a step (41_basic.md R120 to R124). -/

namespace Sys2Proof.Machine

/-! ## Bytes fetched one after the other -/

/-- The state after `k` fetches that reported `es`: `pc` is past the bytes, and the machine halts if there was a
report (40_engine.md R103, R105). -/
def fetched (k : Nat) (es : List Event) (s : State) : State :=
  { s with
    pc := pcPlus s.params s.pc k
    trace := s.trace ++ es
    halted := s.halted || !es.isEmpty }

theorem fetched_nil (k : Nat) (s : State) : fetched k [] s = { s with pc := pcPlus s.params s.pc k } := by
  simp [fetched]

theorem fetched_reports (k : Nat) (es : List Event) (s : State) : Reports es s (fetched k es s) := ⟨rfl, rfl⟩

/-- One fetch more, in and out of bounds: the byte is that of an operand read, and its report comes last. -/
theorem fetch8_fetched (k : Nat) (es : List Event) (s : State) :
    fetch8 (fetched k es s) =
      (operandAt s (pcPlus s.params s.pc k),
        fetched (k + 1) (es ++ readReports s (pcPlus s.params s.pc k)) s) := by
  by_cases h : pcPlus s.params s.pc k < s.params.memSize
  · rw [fetch8_inBounds (s := fetched k es s) h, operandAt, readReports, if_pos h, if_pos h, List.append_nil]
    rfl
  · rw [fetch8_outOfBounds (s := fetched k es s) h, operandAt, readReports, if_neg h, if_neg h]
    simp [fetched, advancePc, raiseHalt, report, pcPlus]

/-- A step whose opcode byte exists runs the handler of that opcode, with `pc` past it (40_engine.md R101). -/
theorem step_at_opcode {s : State} {op : Byte} (hrun : s.halted = false) (hpc : s.pc < s.params.memSize)
    (hop : s.mem.read s.pc = op) : step s = .next (runHandler (dispatchTable op) op (fetched 1 [] s)) := by
  rw [step_eq_engineStep hrun, engineStep_inBounds hpc, hop, fetched_nil]
  rfl

/-! ## NOP and the unimplemented opcodes -/

theorem encode_of_opcode_ne {i : Instr} (hsta : i.opcode ≠ 0x04#8) (hldi : i.opcode ≠ 0x43#8) :
    encode i = [i.opcode] := by
  cases i
  case ldi v => exact absurd (opcode_ldi v) hldi
  case sta lo hi => exact absurd (opcode_sta lo hi) hsta
  all_goals rfl

/-- The opcodes at which nothing, or NOP's handler, is installed: NOP's and the unimplemented ones (R120, R124). -/
def isNoEffectOpcode (op : Byte) : Bool := op == 0x00#8 || isUnimplementedOpcode op

theorem isNoEffectOpcode_iff (op : Byte) :
    isNoEffectOpcode op = true ↔ op ∉ [0x04#8, 0x43#8, 0x95#8, 0xFF#8] ∧ isMoveOpcode op = false := by
  by_cases h : op = 0x00#8
  · subst h
    decide
  · simp [isNoEffectOpcode, isUnimplementedOpcode, h, and_comm]

theorem runHandler_of_isNoEffectOpcode {op : Byte} (h : isNoEffectOpcode op = true) (s : State) :
    runHandler (dispatchTable op) op s = s := by
  obtain ⟨hop, hmove⟩ := (isNoEffectOpcode_iff op).mp h
  simp only [List.mem_cons, List.not_mem_nil, or_false, not_or] at hop
  obtain ⟨hsta, hldi, hinc, hhlt⟩ := hop
  by_cases hnop : op = 0x00#8
  · subst hnop
    rfl
  · have hd : dispatchTable op = .unimplemented := by simp [dispatchTable_eq, *]
    rw [hd]
    rfl

theorem exec_of_isNoEffectOpcode {i : Instr} (h : isNoEffectOpcode i.opcode = true) (s : State) :
    exec i s = .next s := by
  have henc : encode i = [i.opcode] := by
    refine encode_of_opcode_ne (fun e => ?_) (fun e => ?_) <;> rw [e] at h <;> exact absurd h (by decide)
  rw [exec_eq_runHandler henc, runHandler_of_isNoEffectOpcode h]

/-- Settles O14: every opcode outside the installed ones has a handler that leaves the state, as NOP's does. -/
theorem nopAndUnimplementedChangeNothing : Obligations.NopAndUnimplementedChangeNothing := by
  rintro i s (hnop | ⟨hop, hmove⟩)
  · exact exec_of_isNoEffectOpcode (by rw [hnop]; rfl) s
  · exact exec_of_isNoEffectOpcode ((isNoEffectOpcode_iff _).mpr ⟨hop, by simpa [isMoveOpcode] using hmove⟩) s

/-- Settles O26: such a step is its opcode fetch. -/
theorem nopAndUnimplementedStep : Obligations.NopAndUnimplementedStep := by
  intro s hrun hpc hop
  have hnone : isNoEffectOpcode (s.mem.read s.pc) = true := by simpa [isNoEffectOpcode] using hop
  rw [step_at_opcode hrun hpc rfl, runHandler_of_isNoEffectOpcode hnone, fetched_nil]

/-! ## HLT -/

/-- Settles O30: after the opcode fetch, HLT's handler is one halting event. -/
theorem hltStep : Obligations.HltStep := by
  intro s hrun hpc hop
  rw [step_at_opcode hrun hpc hop, fetched_nil]
  rfl

/-! ## LDI -/

theorem readAcc_loadImmediate (v : Byte) (s : State) : readAcc (loadImmediate v s) = v :=
  readReg_writeReg_same _ v s

theorem loadImmediate_flagsOf (v : Byte) (s : State) : FlagsOf v s (loadImmediate v s) :=
  ⟨flagZ_setFlags v _, flagN_setFlags v _, setFlags_low v (writeAcc v s)⟩

theorem loadImmediate_sameRegsBut (v : Byte) (s : State) :
    SameRegsBut [s.params.roleTable.a] s (loadImmediate v s) :=
  fun _ hr => readReg_setFlags_writeAcc (by simpa using hr) v v

/-- Settles O15: the register and the flags that LDI writes are the only two fields it writes. -/
theorem ldiLoadsTheImmediate : Obligations.LdiLoadsTheImmediate := fun v s =>
  ⟨loadImmediate v s, rfl, readAcc_loadImmediate v s, loadImmediate_flagsOf v s, loadImmediate_sameRegsBut v s,
    fun _ _ => rfl, ⟨(List.append_nil _).symm, (Bool.or_false _).symm⟩, rfl, rfl, rfl⟩

theorem runHandler_ldi (s : State) :
    runHandler (dispatchTable 0x43#8) 0x43#8 s = loadImmediate (fetch8 s).1 (fetch8 s).2 := rfl

/-- A step at LDI's opcode: one operand fetch, whether or not the byte exists, and then LDI of it. -/
theorem step_ldi {s : State} (hrun : s.halted = false) (hpc : s.pc < s.params.memSize)
    (hop : s.mem.read s.pc = 0x43#8) :
    step s = .next (loadImmediate (operandAt s (pcPlus s.params s.pc 1))
      (fetched 2 (readReports s (pcPlus s.params s.pc 1)) s)) := by
  rw [step_at_opcode hrun hpc hop, runHandler_ldi, fetch8_fetched, List.nil_append]

/-- Settles O28: LDI on the state after its two fetches, which change only `pc` and make the reports. -/
theorem ldiStep : Obligations.LdiStep := by
  intro s hrun hpc hop v
  exact ⟨_, step_ldi hrun hpc hop, readAcc_loadImmediate v _, loadImmediate_flagsOf v _,
    loadImmediate_sameRegsBut v _, fun _ _ => rfl, fetched_reports 2 _ s, rfl, rfl, rfl⟩

/-! ## STA -/

/-- Settles O16: STA is one write, at an address that is a concatenation of two bytes. -/
theorem staStoresTheAccumulator : Obligations.StaStoresTheAccumulator := fun lo hi s =>
  ⟨toNat_concat16 hi lo, _, exec_sta lo hi s, memWriteIsBoundsChecked (addr16 lo hi) (readAcc s) s⟩

theorem runHandler_sta (s : State) :
    runHandler (dispatchTable 0x04#8) 0x04#8 s =
      storeAbsolute (fetch8 s).1 (fetch8 (fetch8 s).2).1 (fetch8 (fetch8 s).2).2 := rfl

/-- A step at STA's opcode: two operand fetches, the low byte's report first, and then the write. -/
theorem step_sta {s : State} (hrun : s.halted = false) (hpc : s.pc < s.params.memSize)
    (hop : s.mem.read s.pc = 0x04#8) :
    step s = .next (storeAbsolute (operandAt s (pcPlus s.params s.pc 1)) (operandAt s (pcPlus s.params s.pc 2))
      (fetched 3 (readReports s (pcPlus s.params s.pc 1) ++ readReports s (pcPlus s.params s.pc 2)) s)) := by
  rw [step_at_opcode hrun hpc hop, runHandler_sta, fetch8_fetched, List.nil_append, fetch8_fetched]

/-- Settles O29: STA's write on the state after its three fetches, which change only `pc` and make their reports
before the write makes its own. -/
theorem staStep : Obligations.StaStep := by
  intro s hrun hpc hop p1 p2 a
  have hfetch := fetched_reports 3 (readReports s p1 ++ readReports s p2) s
  obtain ⟨hstored, hwrite, hregs, hpc', hsp, hflags, hparams⟩ :=
    memWriteIsBoundsChecked a (readAcc s) (fetched 3 (readReports s p1 ++ readReports s p2) s)
  exact ⟨_, step_sta hrun hpc hop, hstored, hregs, hflags, hfetch.append hwrite, hpc', hsp, hparams⟩

end Sys2Proof.Machine

/-! SUPPORT. The move instructions by name (42_move.md R144 to R179): each is encoded by R84's opcode of its two
roles, so what is proved of that opcode holds of it. -/

namespace Sys2Proof.Machine

/-- R84's formula is all that ties an instruction's name to its two roles (30_encoding.md R84, 42_move.md R140). -/
theorem isMove_of_encode {i : Instr} {op : Byte} {s d : Role} (henc : encode i = [op]) (hop : op = moveOpcode d s) :
    IsMove i op s d := by
  have hopcode : i.opcode = op := by rw [Instr.opcode, henc]; rfl
  have hmove : IsMove i i.opcode s d := isMove_moveOpcode (hopcode.trans hop)
  exact hopcode ▸ hmove

/-- Settles O20: 0xA0 to 0xA5 and 0xB0 to 0xB5 are R84's opcodes of the sources B and C with each destination. -/
theorem movesFromBAndC : Obligations.MovesFromBAndC := by
  refine ⟨?_, ?_, ?_, ?_, ?_, ?_, ?_, ?_, ?_, ?_, ?_, ?_⟩ <;> exact isMove_of_encode rfl rfl

/-- Settles O21: 0xC0 to 0xC5 and 0xD0 to 0xD5 are R84's opcodes of the sources H and L with each destination. -/
theorem movesFromHAndL : Obligations.MovesFromHAndL := by
  refine ⟨?_, ?_, ?_, ?_, ?_, ?_, ?_, ?_, ?_, ?_, ?_, ?_⟩ <;> exact isMove_of_encode rfl rfl

/-- Settles O22: 0xE0 to 0xE5 and 0xF0 to 0xF5 are R84's opcodes of the sources A and M with each destination,
M to M among them. -/
theorem movesFromAAndM : Obligations.MovesFromAAndM := by
  refine ⟨?_, ?_, ?_, ?_, ?_, ?_, ?_, ?_, ?_, ?_, ?_, ?_⟩ <;> exact isMove_of_encode rfl rfl

end Sys2Proof.Machine

/-! SUPPORT. INC, as its meaning and as a step (43_alu.md R190): it loads the accumulator with its own successor, so
what is proved of an immediate load holds of it. -/

namespace Sys2Proof.Machine

theorem exec_inc (s : State) : exec .inc s = .next (increment s) := rfl

/-- R190 ends as LDI does: one value goes to the accumulator and to the flags. -/
theorem increment_eq_loadImmediate (s : State) : increment s = loadImmediate (readAcc s + 1#8) s := rfl

@[simp] theorem readAcc_increment (s : State) : readAcc (increment s) = readAcc s + 1#8 := by
  rw [increment_eq_loadImmediate, readAcc_loadImmediate]

/-- The byte's own addition wraps, so 0xFF gives 0x00 (R190, R191). -/
theorem toNat_readAcc_increment (s : State) : (readAcc (increment s)).toNat = ((readAcc s).toNat + 1) % 256 := by
  rw [readAcc_increment, BitVec.toNat_add]
  rfl

theorem increment_flagsOf (s : State) : FlagsOf (readAcc (increment s)) s (increment s) := by
  rw [readAcc_increment, increment_eq_loadImmediate]
  exact loadImmediate_flagsOf _ s

theorem increment_sameRegsBut (s : State) : SameRegsBut [s.params.roleTable.a] s (increment s) :=
  loadImmediate_sameRegsBut (readAcc s + 1#8) s

/-- Settles O18: INC writes the accumulator and the flags, and no other field. -/
theorem incIncrementsModulo256 : Obligations.IncIncrementsModulo256 := fun s =>
  ⟨increment s, exec_inc s, toNat_readAcc_increment s, increment_flagsOf s, increment_sameRegsBut s,
    fun _ _ => rfl, ⟨(List.append_nil _).symm, (Bool.or_false _).symm⟩, rfl, rfl, rfl⟩

/-- A step at INC's opcode: the opcode fetch, which reports nothing, and then the increment. -/
theorem step_inc {s : State} (hrun : s.halted = false) (hpc : s.pc < s.params.memSize)
    (hop : s.mem.read s.pc = 0x95#8) : step s = .next (increment (fetched 1 [] s)) :=
  step_at_opcode hrun hpc hop

/-- Settles O31: INC on the state after the opcode fetch, which changes only `pc`. -/
theorem incStep : Obligations.IncStep := by
  intro s hrun hpc hop
  exact ⟨_, step_inc hrun hpc hop, toNat_readAcc_increment _, increment_flagsOf _, increment_sameRegsBut _,
    fun _ _ => rfl, fetched_reports 1 [] s, rfl, rfl, rfl⟩

end Sys2Proof.Machine

/-! SUPPORT. Ingestion: what a copy leaves in the staging region, and the result of `Ingest` with the region's initial
contents gone from it (44_ingestion_harness.md R200 to R213). -/

namespace Sys2Proof.Machine

/-! ## Copying into a region -/

@[simp] theorem length_newRegion (init : Nat → Byte) (n : Nat) : (newRegion init n).length = n := by simp [newRegion]

@[simp] theorem length_copyInto (region : List Byte) (k : Nat) (vs : List Byte) :
    (copyInto region k vs).length = region.length := by
  induction vs generalizing region k with
  | nil => rfl
  | cons v vs ih => rw [copyInto, ih, List.length_set]

/-- A byte of the region after a copy: the byte copied there, or the byte that was there. What is copied past the
region's end is lost. -/
theorem getElem?_copyInto (region : List Byte) (k : Nat) (vs : List Byte) (i : Nat) :
    (copyInto region k vs)[i]? =
      if k ≤ i ∧ i < k + vs.length ∧ i < region.length then vs[i - k]? else region[i]? := by
  induction vs generalizing region k with
  | nil => rw [copyInto, List.length_nil, if_neg (by omega)]
  | cons v vs ih =>
    rw [copyInto, ih, List.length_set, List.length_cons, List.getElem?_set]
    rcases lt_trichotomy i k with h | rfl | h
    · rw [if_neg (by omega), if_neg (by omega), if_neg (by omega)]
    · by_cases hi : i < region.length <;> simp [hi]
    · obtain ⟨j, rfl⟩ : ∃ j, i = k + 1 + j := ⟨i - (k + 1), by omega⟩
      have hj : k + 1 + j - k = j + 1 := by omega
      rw [if_neg (show k ≠ k + 1 + j by omega), hj, List.getElem?_cons_succ, Nat.add_sub_cancel_left]
      refine if_congr ?_ rfl rfl
      omega

/-- What is copied to the start of a region that has room for it can be taken from there again. -/
theorem take_copyInto_zero {region vs : List Byte} (h : vs.length ≤ region.length) :
    (copyInto region 0 vs).take vs.length = vs := by
  apply List.ext_getElem?
  intro i
  rw [List.getElem?_take, getElem?_copyInto]
  by_cases hi : i < vs.length
  · rw [if_pos hi, if_pos (by omega), Nat.sub_zero]
  · rw [if_neg hi, List.getElem?_eq_none (by omega)]

/-! ## The payload -/

theorem ingestBounded_eq_take (init : Nat → Byte) (p : List Byte) : ingestBounded init p = p.take 1024 := by
  have htake : p.take (min p.length Config.stageCap) = p.take 1024 :=
    List.take_eq_take_iff.mpr (by rw [Config.stageCap]; omega)
  have hlen : min p.length Config.stageCap = (p.take 1024).length := by
    rw [List.length_take, Nat.min_comm, Config.stageCap]
  rw [ingestBounded, htake, hlen]
  exact take_copyInto_zero (by simp [Config.stageCap])

theorem take_unboundedRegion (init : Nat → Byte) (guard p : List Byte) :
    (unboundedRegion init guard p).take (received p).length = p.take 1024 :=
  take_copyInto_zero (by simpa [Config.unsafeRegionSize] using length_received_le p)

/-! ## The guard after the copy -/

/-- The guard's content after the copy of `p`: where a byte of `p` reached it that byte, and elsewhere its own (R205,
R206). -/
def overwrittenGuard (guard p : List Byte) : List Byte :=
  (List.range guard.length).map fun j =>
    if 64 + j < min p.length 1024 then p.getD (64 + j) 0x00#8 else guard.getD j 0x00#8

@[simp] theorem length_overwrittenGuard (guard p : List Byte) : (overwrittenGuard guard p).length = guard.length := by
  simp [overwrittenGuard]

theorem getElem?_overwrittenGuard {guard : List Byte} {j : Nat} (h : j < guard.length) (p : List Byte) :
    (overwrittenGuard guard p)[j]? = if 64 + j < min p.length 1024 then p[64 + j]? else guard[j]? := by
  rw [overwrittenGuard, List.getElem?_map, List.getElem?_range h, Option.map_some]
  split
  case isTrue hp => rw [List.getD_eq_getElem _ _ (by omega), List.getElem?_eq_getElem]
  case isFalse => rw [List.getD_eq_getElem _ _ h, List.getElem?_eq_getElem]

theorem getElem?_unboundedRegion (init : Nat → Byte) {guard : List Byte} {j : Nat} (h : j < guard.length)
    (hin : j < 960) (p : List Byte) : (unboundedRegion init guard p)[64 + j]? = (overwrittenGuard guard p)[j]? := by
  have hsize : 64 + j < Config.unsafeRegionSize := by rw [Config.unsafeRegionSize]; omega
  have hguard : (copyInto (newRegion init Config.unsafeRegionSize) Config.safeCap guard)[64 + j]? = guard[j]? := by
    rw [getElem?_copyInto, length_newRegion, Config.safeCap, if_pos (by omega), Nat.add_sub_cancel_left]
  rw [unboundedRegion, getElem?_copyInto, hguard, length_copyInto, length_newRegion, getElem?_overwrittenGuard h,
    received, List.length_take, Config.recvRequest]
  by_cases hp : 64 + j < min p.length 1024
  · rw [if_pos hp, if_pos (by omega), Nat.sub_zero, List.getElem?_take_of_lt (by omega)]
  · rw [if_neg hp, if_neg (by omega)]

/-- What the guard check reads (R207): of a guard that does not fit, only the part inside the 1024 bytes of the
region. -/
def comparedGuard (guard p : List Byte) : List Byte := (overwrittenGuard guard p).take 960

theorem guardContent_unboundedRegion (init : Nat → Byte) (guard p : List Byte) :
    guardContent guard (unboundedRegion init guard p) = comparedGuard guard p := by
  apply List.ext_getElem?
  intro j
  rw [guardContent, Config.safeCap, comparedGuard, List.getElem?_take, List.getElem?_drop, List.getElem?_take]
  by_cases hj : j < guard.length
  · by_cases hin : j < 960
    · rw [if_pos hj, if_pos hin, getElem?_unboundedRegion init hj hin]
    · rw [if_pos hj, if_neg hin, List.getElem?_eq_none]
      simp only [unboundedRegion, length_copyInto, length_newRegion, Config.unsafeRegionSize]
      omega
  · simp [hj]

/-- A guard that the parameters' check admits fits (R204). -/
theorem comparedGuard_of_guardOk {q : Params} (h : q.guardOk = true) (p : List Byte) :
    comparedGuard q.guardBytes p = overwrittenGuard q.guardBytes p := by
  simp only [Params.guardOk, Bool.and_eq_true, decide_eq_true_eq] at h
  obtain ⟨-, hfit⟩ := h
  rw [Config.safeCap, Config.unsafeRegionSize] at hfit
  exact List.take_of_length_le (by rw [length_overwrittenGuard]; omega)

theorem overwrittenGuard_eq_self_iff (guard p : List Byte) :
    overwrittenGuard guard p = guard ↔
      ∀ j, j < guard.length → 64 + j < min p.length 1024 → p.getD (64 + j) 0x00#8 = guard.getD j 0x00#8 := by
  constructor
  · intro h j hj hp
    have hbyte := getElem?_overwrittenGuard hj p
    rw [h, if_pos hp] at hbyte
    rw [List.getD_eq_getElem?_getD, List.getD_eq_getElem?_getD, hbyte]
  · intro h
    refine List.ext_getElem (length_overwrittenGuard guard p) fun j _ hj => ?_
    simp only [overwrittenGuard, List.getElem_map, List.getElem_range, ← List.getD_eq_getElem guard 0x00#8 hj]
    exact ite_eq_right_iff.mpr (h j hj)

/-! ## The result of `Ingest`, mode by mode -/

theorem ingestWith_of_bounded {s : State} (h : s.params.ingestMode = .bounded) (init : Nat → Byte) (p : List Byte) :
    ingestWith init p s = (.payload (p.take 1024), s) := by
  simp [ingestWith, h, ingestBounded_eq_take]

theorem ingestWith_of_unbounded {s : State} (h : s.params.ingestMode = .unbounded) (init : Nat → Byte)
    (p : List Byte) :
    ingestWith init p s =
      if s.params.guardEnabled && comparedGuard s.params.guardBytes p != s.params.guardBytes then
        (.fatal (comparedGuard s.params.guardBytes p),
          report (.guardFail (comparedGuard s.params.guardBytes p)) s)
      else (.payload (p.take 1024), s) := by
  simp only [ingestWith, h, guardContent_unboundedRegion, take_unboundedRegion]

theorem ingest_of_guarded {s : State} (hmode : s.params.ingestMode = .unbounded)
    (hguard : s.params.guardEnabled = true) (hok : s.params.guardOk = true) (p : List Byte) :
    ingest p s =
      if overwrittenGuard s.params.guardBytes p = s.params.guardBytes then (.payload (p.take 1024), s)
      else (.fatal (overwrittenGuard s.params.guardBytes p),
        report (.guardFail (overwrittenGuard s.params.guardBytes p)) s) := by
  rw [ingest, ingestWith_of_unbounded hmode, comparedGuard_of_guardOk hok, hguard, Bool.true_and]
  by_cases h : overwrittenGuard s.params.guardBytes p = s.params.guardBytes <;> simp [h]

/-- Settles O51: neither mode's result mentions the initial contents. -/
theorem stagingContentsAreNeverObserved : Obligations.StagingContentsAreNeverObserved := by
  intro init init' p s
  cases h : s.params.ingestMode with
  | bounded => rw [ingestWith_of_bounded h, ingestWith_of_bounded h]
  | unbounded => rw [ingestWith_of_unbounded h, ingestWith_of_unbounded h]

/-- Settles O46: the copied length is at most the region's, so the copy is read back whole. -/
theorem boundedIngestTruncates : Obligations.BoundedIngestTruncates :=
  fun p _ h => ingestWith_of_bounded h _ p

/-- Settles O50: bounded mode has one result, whatever the guard parameter. -/
theorem guardHasNoEffectWhenBounded : Obligations.GuardHasNoEffectWhenBounded := by
  intro p s b h
  have hpayload : (ingest p s).1 = .payload (p.take 1024) := congrArg Prod.fst (boundedIngestTruncates p s h)
  refine ⟨?_, fun g => by simp [hpayload]⟩
  rw [hpayload]
  exact congrArg Prod.fst (boundedIngestTruncates p { s with params := { s.params with guardEnabled := b } } h)

/-- Settles O49: without the guard no comparison is made, and the copy is read back whole. -/
theorem unguardedIngestNeverFails : Obligations.UnguardedIngestNeverFails := by
  intro p s hmode hguard
  rw [ingest, ingestWith_of_unbounded hmode, hguard]
  rfl

/-- Settles O47: the guard read back is the overwritten one. -/
theorem guardedIngestComparesTheGuard : Obligations.GuardedIngestComparesTheGuard :=
  fun p _ hmode hguard hok => ingest_of_guarded hmode hguard hok p

/-- Settles O48: the overwritten guard is the guard's own exactly if each received byte over it is. -/
theorem fatalExactlyWhenTheGuardDiffers : Obligations.FatalExactlyWhenTheGuardDiffers := by
  intro p s hmode hguard hok
  have hfatal : (∃ g, (ingest p s).1 = .fatal g) ↔
      ¬ overwrittenGuard s.params.guardBytes p = s.params.guardBytes := by
    rw [ingest_of_guarded hmode hguard hok]
    by_cases h : overwrittenGuard s.params.guardBytes p = s.params.guardBytes <;> simp [h]
  rw [overwrittenGuard_eq_self_iff] at hfatal
  refine ⟨hfatal.trans (by push Not; rfl), fun hlen g h => hfatal.mp ⟨g, h⟩ fun j _ hp => ?_⟩
  omega

end Sys2Proof.Machine

/-! SUPPORT. Injection after reset, and the run of a program from there (44_ingestion_harness.md R212, R215). -/

namespace Sys2Proof.Machine

/-! ## Injection -/

theorem read_inject_resetMachine (q : List Byte) (s : State) (i : Nat) :
    (inject q (resetMachine s)).mem.read i = q.getD i 0x00#8 := by
  rw [inject_mem, resetMachine_mem, Memory.read_load, if_neg (Nat.not_lt_zero i), Nat.sub_zero, Memory.read_nil,
    List.getD_eq_getElem?_getD]
  rfl

theorem Memory.nil_wf : Memory.wf [] := ⟨.nil, by simp⟩

/-- Settles O45: the payload is loaded over the empty memory, and no other field is written. -/
theorem injectionLoadsAtZero : Obligations.InjectionLoadsAtZero := fun q s =>
  ⟨read_inject_resetMachine q s, Memory.load_wf q 0 Memory.nil_wf, rfl, rfl⟩

/-! ## Runs of one program -/

/-- Two machines in lockstep run to the same outcome and count, and are in lockstep when the runs end. -/
theorem Lockstep.keepsRun {R : State → State → Prop} (L : Lockstep R) (n : Nat) {s s' : State} (h : R s s') :
    (run n s).outcome = (run n s').outcome ∧ (run n s).cycles = (run n s').cycles ∧
      R (run n s).state (run n s').state := by
  induction n generalizing s s' with
  | zero =>
    obtain ⟨-, -, -, hhalted, -⟩ := L.agree h
    exact ⟨by simp [run, hhalted], rfl, h⟩
  | succ n ih =>
    obtain ⟨-, -, -, hhalted, -⟩ := L.agree h
    cases hs : s.halted with
    | true =>
      rw [run_of_halted hs, run_of_halted (hhalted.trans hs)]
      exact ⟨rfl, rfl, h⟩
    | false =>
      rw [run_succ_of_running hs, run_succ_of_running (hhalted.trans hs)]
      obtain ⟨hout, hcycles, hstate⟩ := ih (L.keepsEngineStep h)
      exact ⟨hout, congrArg Nat.succ hcycles, hstate⟩

/-- The two machines differ in nothing but what their traces held before, `es` and `es'`. -/
def SameSince (es es' : List Event) (s s' : State) : Prop :=
  ∃ new, s.trace = es ++ new ∧ s' = { s with trace := es' ++ new }

theorem lockstep_sameSince (es es' : List Event) : Lockstep (SameSince es es') where
  agree := by rintro s _ ⟨new, -, rfl⟩; exact ⟨rfl, rfl, rfl, rfl, rfl⟩
  keepsWriteReg r v := by rintro ⟨new, hs, rfl⟩; exact ⟨new, hs, rfl⟩
  keepsSetFlags v := by rintro ⟨new, hs, rfl⟩; exact ⟨new, hs, rfl⟩
  keepsRaiseHalt {s _} e := by
    rintro ⟨new, hs, rfl⟩
    exact ⟨new ++ [e], by simp [hs], by simp [raiseHalt, report]⟩
  keepsAdvancePc := by rintro s _ ⟨new, hs, rfl⟩; exact ⟨new, hs, rfl⟩
  keepsStore a v _ := by rintro ⟨new, hs, rfl⟩; exact ⟨new, hs, rfl⟩

/-- Reset leaves nothing of the machine before it but its configuration and its trace (R252). -/
theorem sameSince_inject_resetMachine (q : List Byte) {s s' : State} (h : s.params = s'.params) :
    SameSince s.trace s'.trace (inject q (resetMachine s)) (inject q (resetMachine s')) :=
  ⟨[], by simp, by simp [inject, resetMachine, h]⟩

/-- Settles O55: after reset the two machines differ in their old traces only, and every step keeps that. -/
theorem runsOfAProgramAreIsolated : Obligations.RunsOfAProgramAreIsolated := by
  intro budget q s s' hparams r r'
  obtain ⟨hout, hcycles, new, hs, hs'⟩ :=
    (lockstep_sameSince s.trace s'.trace).keepsRun budget (sameSince_inject_resetMachine q hparams)
  exact ⟨hout, hcycles, congrArg (fun t : State => { t with trace := r.state.trace }) hs', new, hs,
    congrArg State.trace hs'⟩

end Sys2Proof.Machine

/-! SUPPORT. The listening loop, turn by turn: what a packet does to the process, what ends it, and the invariant under
it (44_ingestion_harness.md R214 to R217). -/

namespace Sys2Proof.Machine

/-! ## One turn of the listening loop -/

theorem receivePacket_of_ended {pr : Process} (h : pr.exit ≠ none) (budget : Nat) (p : List Byte) :
    receivePacket budget p pr = pr := by
  obtain ⟨status, hexit⟩ := Option.ne_none_iff_exists'.mp h
  simp [receivePacket, hexit]

theorem receivePacket_nil (budget : Nat) (pr : Process) : receivePacket budget [] pr = pr := by
  unfold receivePacket
  split <;> rfl

theorem ingest_of_fatal {p g : List Byte} {s : State} (h : (ingest p s).1 = .fatal g) :
    ingest p s = (.fatal g, report (.guardFail g) s) := by
  rcases ingest_cases p s with ⟨q, -, e⟩ | ⟨g', e⟩ <;> rw [e] at h <;> cases h
  exact e

theorem ingest_of_payload {p q : List Byte} {s : State} (h : (ingest p s).1 = .payload q) :
    ingest p s = (.payload q, s) := by
  rcases ingest_cases p s with ⟨q', -, e⟩ | ⟨g, e⟩ <;> rw [e] at h <;> cases h
  exact e

/-- What ingestion answers depends on the machine's configuration only. -/
theorem ingest_fst_congr {s t : State} (h : t.params = s.params) (p : List Byte) :
    (ingest p t).1 = (ingest p s).1 := by
  have hmode : t.params.ingestMode = s.params.ingestMode := congrArg Params.ingestMode h
  rw [ingest, ingest]
  cases hs : s.params.ingestMode with
  | bounded => rw [ingestWith_of_bounded hs, ingestWith_of_bounded (hmode.trans hs)]
  | unbounded =>
    rw [ingestWith_of_unbounded hs, ingestWith_of_unbounded (hmode.trans hs), h]
    split <;> rfl

theorem receivePacket_of_fatal {p g : List Byte} {pr : Process} (hexit : pr.exit = none) (hp : p ≠ [])
    (h : (ingest p pr.machine).1 = .fatal g) (budget : Nat) :
    receivePacket budget p pr = { machine := report (.guardFail g) pr.machine, exit := some exitGuard } := by
  simp [receivePacket, hexit, hp, ingest_of_fatal h]

theorem receivePacket_of_payload {p q : List Byte} {pr : Process} (hexit : pr.exit = none) (hp : p ≠ [])
    (h : (ingest p pr.machine).1 = .payload q) (budget : Nat) :
    receivePacket budget p pr = { machine := (runProgram budget q pr.machine).state, exit := none } := by
  simp [receivePacket, hexit, hp, ingest_of_payload h]

/-- Settles O52: an empty receive is a turn of the loop that leaves the process. -/
theorem emptyReceiveDoesNothing : Obligations.EmptyReceiveDoesNothing := fun budget ps pr => by
  rw [listenLoop, receivePacket_nil]

/-- Settles O54: a payload is run as every program is. -/
theorem passedPacketIsRunFromReset : Obligations.PassedPacketIsRunFromReset :=
  fun budget _ _ _ hexit hp h => receivePacket_of_payload hexit hp h budget

/-! ## The end of the listening loop -/

theorem listenLoop_of_ended {pr : Process} (h : pr.exit ≠ none) (budget : Nat) (ps : List (List Byte)) :
    listenLoop budget ps pr = pr := by
  induction ps with
  | nil => rfl
  | cons p ps ih => rw [listenLoop, receivePacket_of_ended h, ih]

theorem receivePacket_params (budget : Nat) (p : List Byte) (pr : Process) :
    (receivePacket budget p pr).machine.params = pr.machine.params := by
  have K := configAndTrace_keptByDrivers pr.machine.params pr.machine.trace
  obtain ⟨hparams, -⟩ := K.keepsReceivePacket budget p (pr := pr) ⟨rfl, List.prefix_rfl⟩
  exact hparams

/-- The one way that a turn of the loop ends the process (R217). -/
theorem fatal_of_receivePacket_ended {budget : Nat} {p : List Byte} {pr : Process} (hexit : pr.exit = none)
    (h : (receivePacket budget p pr).exit ≠ none) : ∃ g, (ingest p pr.machine).1 = .fatal g := by
  by_cases hp : p = []
  · subst hp
    rw [receivePacket_nil] at h
    exact absurd hexit h
  · cases hingest : (ingest p pr.machine).1 with
    | fatal g => exact ⟨g, rfl⟩
    | payload q =>
      rw [receivePacket_of_payload hexit hp hingest] at h
      exact absurd rfl h

theorem exists_fatal_of_listenLoop_ended {budget : Nat} {ps : List (List Byte)} {pr : Process}
    (hexit : pr.exit = none) (h : (listenLoop budget ps pr).exit ≠ none) :
    ∃ p ∈ ps, ∃ g, (ingest p pr.machine).1 = .fatal g := by
  induction ps generalizing pr with
  | nil => exact absurd hexit h
  | cons p ps ih =>
    by_cases hturn : (receivePacket budget p pr).exit = none
    · obtain ⟨p', hmem, g, hfatal⟩ := ih hturn h
      rw [ingest_fst_congr (receivePacket_params budget p pr)] at hfatal
      exact ⟨p', List.mem_cons_of_mem p hmem, g, hfatal⟩
    · exact ⟨p, List.mem_cons_self, fatal_of_receivePacket_ended hexit hturn⟩

/-- Settles O53: a turn that fails ends the loop there, and a turn that ends it has failed. -/
theorem onlyGuardFailureEndsListening : Obligations.OnlyGuardFailureEndsListening := by
  refine ⟨fun budget p ps pr g hexit hp hfatal => ?_, by simp [exitGuard],
    fun _ _ _ => exists_fatal_of_listenLoop_ended⟩
  rw [listenLoop, receivePacket_of_fatal hexit hp hfatal, listenLoop_of_ended (by simp)]
  rfl

/-! ## The invariant under the drivers -/

/-- The invariant, with a memory that no payload overruns (00_scope.md R8, 44_ingestion_harness.md R212). -/
def RoomyInv (s : State) : Prop := 1024 ≤ s.params.memSize ∧ MachineInv s

theorem machineInv_inject_resetMachine {q : List Byte} {s : State} (h : q.length ≤ s.params.memSize) :
    MachineInv (inject q (resetMachine s)) :=
  ⟨⟨Memory.load_wf q 0 Memory.nil_wf, Memory.load_within q (by simp) (by simpa using h)⟩, fun _ => by simp,
    by simp [FlagsOk], rfl⟩

theorem roomyInv_keptByDrivers : KeptByDrivers RoomyInv where
  keepsStep := by
    rintro s t ⟨hsize, hinv⟩ hs
    refine ⟨?_, stepKeepsTheInvariant s t hinv hs⟩
    obtain ⟨-, rfl⟩ := step_eq_next_iff.mp hs
    rwa [engineStep_params]
  keepsReport _ h := h
  keepsLoad q hq := fun ⟨hsize, _⟩ => ⟨hsize, machineInv_inject_resetMachine (hq.trans hsize)⟩

theorem memSize_of_memSizeOk {p : Params} (h : p.memSizeOk = true) : 1024 ≤ p.memSize := by
  simp only [Params.memSizeOk, Bool.and_eq_true, decide_eq_true_eq] at h
  exact h.1

/-- Settles O57: a payload of at most 1024 bytes is injected below `MEM_SIZE`, and every step keeps the invariant. -/
theorem listeningKeepsTheInvariant : Obligations.ListeningKeepsTheInvariant := by
  intro budget ps pr hsize hinv
  obtain ⟨-, hinv'⟩ := roomyInv_keptByDrivers.keepsListenLoop budget ps ⟨memSize_of_memSizeOk hsize, hinv⟩
  exact hinv'

end Sys2Proof.Machine

/-! SUPPORT. The self-test: its two cycles, and the end of the process (44_ingestion_harness.md R216). -/

namespace Sys2Proof.Machine

/-! ## Its two cycles -/

/-- Below 65536 the two values of `PC_OVERFLOW` count alike (R31). -/
theorem pcPlus_of_lt {p : Params} {pc k : Nat} (h : pc + k < 65536) : pcPlus p pc k = pc + k := by
  induction k with
  | zero => rfl
  | succ k ih =>
    rw [pcPlus, ih (by omega), pcAfter]
    split <;> omega

theorem engineStep_of_step {s t : State} (h : step s = .next t) : engineStep s = t :=
  (step_eq_next_iff.mp h).2.symm

/-- LDI whose two bytes exist (R121). -/
theorem engineStep_ldi_inBounds {s : State} (hrun : s.halted = false) (hpc : s.pc < s.params.memSize)
    (hop : s.mem.read s.pc = 0x43#8) (himm : pcPlus s.params s.pc 1 < s.params.memSize) :
    engineStep s = loadImmediate (s.mem.read (pcPlus s.params s.pc 1)) { s with pc := pcPlus s.params s.pc 2 } := by
  rw [engineStep_of_step (step_ldi hrun hpc hop), operandAt, readReports, if_pos himm, if_pos himm, fetched_nil]

/-- The self-test's program in memory, RUNNING from address 0 (R216). -/
def selfTestLoaded (s : State) : State := inject selfTestProgram (resetMachine s)

theorem read_selfTestLoaded (s : State) (i : Nat) : (selfTestLoaded s).mem.read i = selfTestProgram.getD i 0x00#8 :=
  read_inject_resetMachine selfTestProgram s i

/-- The machine after the self-test's first cycle, `LDI 2`. -/
def selfTestAfterLdi (s : State) : State := loadImmediate 0x02#8 { selfTestLoaded s with pc := 2 }

theorem engineStep_selfTestLoaded {s : State} (h : 1024 ≤ s.params.memSize) :
    engineStep (selfTestLoaded s) = selfTestAfterLdi s := by
  have hpc (k : Nat) (hk : k ≤ 2) : pcPlus (selfTestLoaded s).params (selfTestLoaded s).pc k = k :=
    (pcPlus_of_lt (pc := 0) (by omega)).trans (Nat.zero_add k)
  have hsize (k : Nat) (hk : k ≤ 2) : k < (selfTestLoaded s).params.memSize := lt_of_lt_of_le (by omega) h
  rw [engineStep_ldi_inBounds rfl (hsize 0 (by omega)) (read_selfTestLoaded s 0)
    ((hpc 1 (by omega)).symm ▸ hsize 1 (by omega)), hpc 1 (by omega), hpc 2 le_rfl, read_selfTestLoaded]
  rfl

/-- The machine after the self-test's second cycle, `HLT`. -/
def selfTestHalted (s : State) : State :=
  { selfTestAfterLdi s with pc := 3, halted := true, trace := s.trace ++ [.syscall 0x02#8] }

theorem readAcc_selfTestAfterLdi (s : State) : readAcc (selfTestAfterLdi s) = 0x02#8 := readAcc_loadImmediate _ _

theorem flags_selfTestAfterLdi (s : State) :
    flagZ (selfTestAfterLdi s) = false ∧ flagN (selfTestAfterLdi s) = false := by
  obtain ⟨hz, hn, -⟩ := loadImmediate_flagsOf 0x02#8 { selfTestLoaded s with pc := 2 }
  exact ⟨hz, hn⟩

theorem engineStep_selfTestAfterLdi {s : State} (h : 1024 ≤ s.params.memSize) :
    engineStep (selfTestAfterLdi s) = selfTestHalted s := by
  have hpc : pcPlus (selfTestAfterLdi s).params (selfTestAfterLdi s).pc 1 = 3 := pcPlus_of_lt (pc := 2) (by omega)
  have hin : (selfTestAfterLdi s).pc < (selfTestAfterLdi s).params.memSize := lt_of_lt_of_le (show 2 < 1024 by omega) h
  rw [engineStep_of_step (hltStep _ rfl hin (read_selfTestLoaded s 2)), hpc, readAcc_selfTestAfterLdi]
  rfl

/-! ## Its run and its end -/

/-- The self-test is over after its two cycles, whatever is left of the budget (R216). -/
theorem selfTestRun_eq {budget : Nat} {s : State} (hsize : 1024 ≤ s.params.memSize) (hbudget : 2 ≤ budget) :
    selfTestRun budget s = { outcome := .halted, cycles := 2, state := selfTestHalted s } := by
  obtain ⟨n, rfl⟩ := Nat.exists_eq_add_of_le' hbudget
  have hldi : run (n + 2) (selfTestLoaded s) = (run (n + 1) (selfTestAfterLdi s)).addCycle := by
    rw [run_succ_of_running rfl, engineStep_selfTestLoaded hsize]
  have hhlt : run (n + 1) (selfTestAfterLdi s) = (run n (selfTestHalted s)).addCycle := by
    rw [run_succ_of_running rfl, engineStep_selfTestAfterLdi hsize]
  calc selfTestRun (n + 2) s = run (n + 2) (selfTestLoaded s) := rfl
    _ = (run n (selfTestHalted s)).addCycle.addCycle := by rw [hldi, hhlt]
    _ = { outcome := .halted, cycles := 2, state := selfTestHalted s } := by rw [run_of_halted rfl]; rfl

theorem selfTest_of_running {pr : Process} (h : pr.exit = none) (budget : Nat) :
    selfTest budget pr = { machine := (selfTestRun budget pr.machine).state, exit := some .normal } := by
  simp [selfTest, h]

theorem selfTest_of_ended {pr : Process} (h : pr.exit ≠ none) (budget : Nat) : selfTest budget pr = pr := by
  obtain ⟨status, hexit⟩ := Option.ne_none_iff_exists'.mp h
  simp [selfTest, hexit]

/-- Settles O58: the run is `LDI 2` and then `HLT`, and HLT leaves the accumulator and the flags that LDI wrote. -/
theorem selfTestEndsAsStated : Obligations.SelfTestEndsAsStated := by
  intro budget pr hsize hbudget
  have hrun := selfTestRun_eq (memSize_of_memSizeOk hsize) hbudget
  have hend (h : pr.exit = none) :
      selfTest budget pr = { machine := selfTestHalted pr.machine, exit := some .normal } := by
    rw [selfTest_of_running h, hrun]
  obtain ⟨hz, hn⟩ := flags_selfTestAfterLdi pr.machine
  dsimp only
  rw [hrun]
  exact ⟨rfl, rfl, readAcc_selfTestAfterLdi pr.machine, hz, hn, rfl, rfl, rfl, hend, (selfTest_of_ended · budget)⟩

end Sys2Proof.Machine

/-! SUPPORT. HLT as its meaning (41_basic.md R123): one halting event, and what such an event leaves unchanged
(60_exceptions.md R244, R248). -/

namespace Sys2Proof.Machine

/-! ## The frame of a halting event -/

theorem raiseHalt_sameRegs (e : Event) (s : State) : SameRegsBut [] s (raiseHalt e s) :=
  fun r _ => readReg_congr (raiseHalt_regs e s) r

theorem raiseHalt_sameMem (e : Event) (s : State) : SameMemBut [] s (raiseHalt e s) :=
  fun a _ => congrArg (Memory.read · a) (raiseHalt_mem e s)

theorem raiseHalt_sameControl (e : Event) (s : State) : SameControl s (raiseHalt e s) :=
  ⟨raiseHalt_pc e s, raiseHalt_sp e s, raiseHalt_flags e s, raiseHalt_params e s⟩

/-! ## HLT's event -/

theorem exec_hlt (s : State) : exec .hlt s = .next (raiseHalt (.syscall (readAcc s)) s) := rfl

/-- Settles O17: HLT is one halting event, so it reports, halts and leaves what every such event leaves. -/
theorem hltReportsAndHalts : Obligations.HltReportsAndHalts := fun s =>
  ⟨_, exec_hlt s, raiseHalt_trace _ s, raiseHalt_halted _ s, raiseHalt_sameRegs _ s, raiseHalt_sameMem _ s,
    raiseHalt_sameControl _ s⟩

end Sys2Proof.Machine

/-! SUPPORT. Reset from any state (70_reset_and_hazards.md R270). -/

namespace Sys2Proof.Machine

theorem read_resetMachine (s : State) (a : Nat) : (resetMachine s).mem.read a = 0x00#8 :=
  (congrArg (Memory.read · a) (resetMachine_mem s)).trans (Memory.read_nil a)

/-- The registers after reset are those of the reset state (R39). -/
theorem readReg_resetMachine (s : State) (r : Reg) : readReg r (resetMachine s) = 0x00#8 :=
  (readReg_congr ((resetMachine_regs s).trans reset_regs.symm) r).trans (RegFile.get_zero r)

/-- Settles O44, field by field: reset writes the Machine State and keeps the configuration and the trace. -/
theorem resetClearsTheMachineOnly : Obligations.ResetClearsTheMachineOnly := fun s =>
  ⟨read_resetMachine s, readReg_resetMachine s, resetMachine_pc s, resetMachine_sp s, resetMachine_flags s,
    resetMachine_halted s, resetMachine_params s, resetMachine_trace s⟩

end Sys2Proof.Machine
